-- ==== Sys2Proof/Word.lean ====
section
/-! DEFINITION. The word types of the LR35902 core: bytes, 16-bit words and the cycle counter. -/

namespace Sys2Proof

/-- An 8-bit register, a memory byte, an instruction byte (R8). -/
abbrev Byte := BitVec 8

/-- A 16-bit register or bus address (R8). -/
abbrev Word := BitVec 16

/-- The cycle counter: `CYCLE_WIDTH` = 64 bits, wrapping modulo 2^64 (R9, R45, decision D4). -/
abbrev Count := BitVec 64

end Sys2Proof
end

