-- ==== Sys2Proof/Syntax/Fields.lean ====
section
/-! DEFINITION. The operand fields of an opcode (R106 to R111) as named alternatives, and the instruction forms that
those fields select. A form groups the rows of the opcode table that one rule of the spec covers. -/

namespace Sys2Proof

/-- A general 8-bit register: the field `r8[k]` with k ≠ 6 (R32, R106). -/
inductive Reg where
  | b | c | d | e | h | l | a
  deriving DecidableEq, Repr

/-- The 8-bit operand field `r8[k]`: a register, or the memory byte at HL for k = 6 (R106). -/
inductive R8 where
  | reg (r : Reg)
  | atHL
  deriving DecidableEq, Repr

/-- The two pairs that LD A,(rr) and LD (rr),A take as an address (R185, R186). -/
inductive Ptr where
  | bc | de
  deriving DecidableEq, Repr

/-- The 16-bit operand field `rp[k]`: code 3 names SP, not AF (R107). -/
inductive Pair where
  | bc | de | hl | sp
  deriving DecidableEq, Repr

/-- The 16-bit operand field `rp2[k]` of PUSH and POP: code 3 names AF (R108). -/
inductive StackPair where
  | bc | de | hl | af
  deriving DecidableEq, Repr

/-- The condition field `cc[k]` (R109). -/
inductive Cond where
  | nz | z | nc | c
  deriving DecidableEq, Repr

/-- The 8-bit ALU operation field `alu[y]` (R110). -/
inductive AluOp where
  | add | adc | sub | sbc | and | xor | or | cp
  deriving DecidableEq, Repr

/-- The CB rotate and shift field `rot[y]` (R111). -/
inductive RotOp where
  | rlc | rrc | rl | rr | sla | sra | swap | srl
  deriving DecidableEq, Repr

/-- A three-bit number: the bit index of BIT, RES and SET (R330) and the vector number of RST (R358). -/
inductive Oct where
  | d0 | d1 | d2 | d3 | d4 | d5 | d6 | d7
  deriving DecidableEq, Repr

/-- The instruction forms, with their operand fields. `Form.instr` (Decode.lean) names the row of the opcode table
that each stands for. -/
inductive Form where
  -- 8-bit loads (R180 to R196)
  | ldRegReg (rd rs : Reg)
  | ldRegMem (rd : Reg)
  | ldMemReg (rs : Reg)
  | ldRegImm (rd : Reg) (n : Byte)
  | ldMemImm (n : Byte)
  | ldAPtr (p : Ptr)
  | ldPtrA (p : Ptr)
  | ldAHli
  | ldAHld
  | ldHliA
  | ldHldA
  | ldAAbs (a : Word)
  | ldAbsA (a : Word)
  | ldhAImm (n : Byte)
  | ldhImmA (n : Byte)
  | ldhAC
  | ldhCA
  -- 16-bit loads and the stack (R210 to R216)
  | ldPairImm (p : Pair) (n : Word)
  | ldAbsSp (a : Word)
  | ldSpHl
  | ldHlSp (e : Byte)
  | push (p : StackPair)
  | pop (p : StackPair)
  -- 8-bit arithmetic and logic (R241 to R254)
  | alu (op : AluOp) (x : R8)
  | aluImm (op : AluOp) (n : Byte)
  | incR8 (x : R8)
  | decR8 (x : R8)
  | daa
  | cpl
  | scf
  | ccf
  -- 16-bit arithmetic (R280 to R283)
  | addHl (p : Pair)
  | incPair (p : Pair)
  | decPair (p : Pair)
  | addSp (e : Byte)
  -- rotates, shifts, bits (R300 to R332)
  | rlca
  | rrca
  | rla
  | rra
  | rot (op : RotOp) (x : R8)
  | bit (n : Oct) (x : R8)
  | res (n : Oct) (x : R8)
  | set (n : Oct) (x : R8)
  -- control transfers (R351 to R361)
  | jp (a : Word)
  | jpCc (cc : Cond) (a : Word)
  | jpHl
  | jr (e : Byte)
  | jrCc (cc : Cond) (e : Byte)
  | call (a : Word)
  | callCc (cc : Cond) (a : Word)
  | rst (t : Oct)
  | ret
  | retCc (cc : Cond)
  | reti
  -- CPU control (R380 to R384)
  | nop
  | halt
  | stop (n : Byte)
  | di
  | ei
  deriving DecidableEq, Repr

end Sys2Proof
end

