-- ==== Sys2Proof/Decode.lean ====
section
/-! DEFINITION. The decoder (R100 to R119, R144), total on any bytes, and the encoder. The decoder splits an opcode
into the fields x, y, z, p and q of R102; the encoder is written apart from it, byte for byte from the opcode maps of
R112 and R113. -/

namespace Sys2Proof

/-! ## Bytes and words -/

/-- `{hi, lo}` (R11). -/
def pairOf (hi lo : Byte) : Word := hi ++ lo

/-- `w[15:8]`. -/
def hiByte (w : Word) : Byte := w.extractLsb' 8 8

/-- `w[7:0]`. -/
def loByte (w : Word) : Byte := w.extractLsb' 0 8

/-! ## The fields of an opcode or sub-opcode byte (R102) -/

def fieldX (b : Byte) : BitVec 2 := b.extractLsb' 6 2
def fieldY (b : Byte) : BitVec 3 := b.extractLsb' 3 3
def fieldZ (b : Byte) : BitVec 3 := b.extractLsb' 0 3
def fieldP (b : Byte) : BitVec 2 := b.extractLsb' 4 2
def fieldQ (b : Byte) : BitVec 1 := b.extractLsb' 3 1

/-- The low two bits of y: the condition field of a conditional transfer (R109). -/
def fieldCc (b : Byte) : BitVec 2 := b.extractLsb' 3 2

/-- `r8[k]` (R106). -/
def r8OfCode (k : BitVec 3) : R8 :=
  match k.toNat with
  | 0 => .reg .b
  | 1 => .reg .c
  | 2 => .reg .d
  | 3 => .reg .e
  | 4 => .reg .h
  | 5 => .reg .l
  | 6 => .atHL
  | _ => .reg .a

/-- `rp[k]` (R107). -/
def pairOfCode (k : BitVec 2) : Pair :=
  match k.toNat with
  | 0 => .bc
  | 1 => .de
  | 2 => .hl
  | _ => .sp

/-- `rp2[k]` (R108). -/
def stackPairOfCode (k : BitVec 2) : StackPair :=
  match k.toNat with
  | 0 => .bc
  | 1 => .de
  | 2 => .hl
  | _ => .af

/-- `cc[k]` (R109). -/
def condOfCode (k : BitVec 2) : Cond :=
  match k.toNat with
  | 0 => .nz
  | 1 => .z
  | 2 => .nc
  | _ => .c

/-- `alu[y]` (R110). -/
def aluOfCode (k : BitVec 3) : AluOp :=
  match k.toNat with
  | 0 => .add
  | 1 => .adc
  | 2 => .sub
  | 3 => .sbc
  | 4 => .and
  | 5 => .xor
  | 6 => .or
  | _ => .cp

/-- `rot[y]` (R111). -/
def rotOfCode (k : BitVec 3) : RotOp :=
  match k.toNat with
  | 0 => .rlc
  | 1 => .rrc
  | 2 => .rl
  | 3 => .rr
  | 4 => .sla
  | 5 => .sra
  | 6 => .swap
  | _ => .srl

/-- The bit index or vector number `y` (R102, R104). -/
def octOfCode (k : BitVec 3) : Oct :=
  match k.toNat with
  | 0 => .d0
  | 1 => .d1
  | 2 => .d2
  | 3 => .d3
  | 4 => .d4
  | 5 => .d5
  | 6 => .d6
  | _ => .d7

/-! ## The row of the opcode table that a form stands for -/

/-- The rows of R180. -/
def instrLdRegReg (rd rs : Reg) : Instr :=
  match rd, rs with
  | .b, .b => .ld_b_b
  | .b, .c => .ld_b_c
  | .b, .d => .ld_b_d
  | .b, .e => .ld_b_e
  | .b, .h => .ld_b_h
  | .b, .l => .ld_b_l
  | .b, .a => .ld_b_a
  | .c, .b => .ld_c_b
  | .c, .c => .ld_c_c
  | .c, .d => .ld_c_d
  | .c, .e => .ld_c_e
  | .c, .h => .ld_c_h
  | .c, .l => .ld_c_l
  | .c, .a => .ld_c_a
  | .d, .b => .ld_d_b
  | .d, .c => .ld_d_c
  | .d, .d => .ld_d_d
  | .d, .e => .ld_d_e
  | .d, .h => .ld_d_h
  | .d, .l => .ld_d_l
  | .d, .a => .ld_d_a
  | .e, .b => .ld_e_b
  | .e, .c => .ld_e_c
  | .e, .d => .ld_e_d
  | .e, .e => .ld_e_e
  | .e, .h => .ld_e_h
  | .e, .l => .ld_e_l
  | .e, .a => .ld_e_a
  | .h, .b => .ld_h_b
  | .h, .c => .ld_h_c
  | .h, .d => .ld_h_d
  | .h, .e => .ld_h_e
  | .h, .h => .ld_h_h
  | .h, .l => .ld_h_l
  | .h, .a => .ld_h_a
  | .l, .b => .ld_l_b
  | .l, .c => .ld_l_c
  | .l, .d => .ld_l_d
  | .l, .e => .ld_l_e
  | .l, .h => .ld_l_h
  | .l, .l => .ld_l_l
  | .l, .a => .ld_l_a
  | .a, .b => .ld_a_b
  | .a, .c => .ld_a_c
  | .a, .d => .ld_a_d
  | .a, .e => .ld_a_e
  | .a, .h => .ld_a_h
  | .a, .l => .ld_a_l
  | .a, .a => .ld_a_a

/-- The rows of R181. -/
def instrLdRegMem (rd : Reg) : Instr :=
  match rd with
  | .b => .ld_b_atHL
  | .c => .ld_c_atHL
  | .d => .ld_d_atHL
  | .e => .ld_e_atHL
  | .h => .ld_h_atHL
  | .l => .ld_l_atHL
  | .a => .ld_a_atHL

/-- The rows of R182. -/
def instrLdMemReg (rs : Reg) : Instr :=
  match rs with
  | .b => .ld_atHL_b
  | .c => .ld_atHL_c
  | .d => .ld_atHL_d
  | .e => .ld_atHL_e
  | .h => .ld_atHL_h
  | .l => .ld_atHL_l
  | .a => .ld_atHL_a

/-- The rows of R183. -/
def instrLdRegImm (rd : Reg) (n : Byte) : Instr :=
  match rd with
  | .b => .ld_b_n8 n
  | .c => .ld_c_n8 n
  | .d => .ld_d_n8 n
  | .e => .ld_e_n8 n
  | .h => .ld_h_n8 n
  | .l => .ld_l_n8 n
  | .a => .ld_a_n8 n

/-- The rows of R185. -/
def instrLdAPtr (p : Ptr) : Instr :=
  match p with
  | .bc => .ld_a_atBC
  | .de => .ld_a_atDE

/-- The rows of R186. -/
def instrLdPtrA (p : Ptr) : Instr :=
  match p with
  | .bc => .ld_atBC_a
  | .de => .ld_atDE_a

/-- The rows of R210. -/
def instrLdPairImm (p : Pair) (n : Word) : Instr :=
  match p with
  | .bc => .ld_bc_n16 n
  | .de => .ld_de_n16 n
  | .hl => .ld_hl_n16 n
  | .sp => .ld_sp_n16 n

/-- The rows of R214. -/
def instrPush (p : StackPair) : Instr :=
  match p with
  | .bc => .push_bc
  | .de => .push_de
  | .hl => .push_hl
  | .af => .push_af

/-- The rows of R215, R216. -/
def instrPop (p : StackPair) : Instr :=
  match p with
  | .bc => .pop_bc
  | .de => .pop_de
  | .hl => .pop_hl
  | .af => .pop_af

/-- The rows of R240. -/
def instrAlu (op : AluOp) (x : R8) : Instr :=
  match op, x with
  | .add, .reg .b => .add_a_b
  | .add, .reg .c => .add_a_c
  | .add, .reg .d => .add_a_d
  | .add, .reg .e => .add_a_e
  | .add, .reg .h => .add_a_h
  | .add, .reg .l => .add_a_l
  | .add, .atHL => .add_a_atHL
  | .add, .reg .a => .add_a_a
  | .adc, .reg .b => .adc_a_b
  | .adc, .reg .c => .adc_a_c
  | .adc, .reg .d => .adc_a_d
  | .adc, .reg .e => .adc_a_e
  | .adc, .reg .h => .adc_a_h
  | .adc, .reg .l => .adc_a_l
  | .adc, .atHL => .adc_a_atHL
  | .adc, .reg .a => .adc_a_a
  | .sub, .reg .b => .sub_b
  | .sub, .reg .c => .sub_c
  | .sub, .reg .d => .sub_d
  | .sub, .reg .e => .sub_e
  | .sub, .reg .h => .sub_h
  | .sub, .reg .l => .sub_l
  | .sub, .atHL => .sub_atHL
  | .sub, .reg .a => .sub_a
  | .sbc, .reg .b => .sbc_a_b
  | .sbc, .reg .c => .sbc_a_c
  | .sbc, .reg .d => .sbc_a_d
  | .sbc, .reg .e => .sbc_a_e
  | .sbc, .reg .h => .sbc_a_h
  | .sbc, .reg .l => .sbc_a_l
  | .sbc, .atHL => .sbc_a_atHL
  | .sbc, .reg .a => .sbc_a_a
  | .and, .reg .b => .and_b
  | .and, .reg .c => .and_c
  | .and, .reg .d => .and_d
  | .and, .reg .e => .and_e
  | .and, .reg .h => .and_h
  | .and, .reg .l => .and_l
  | .and, .atHL => .and_atHL
  | .and, .reg .a => .and_a
  | .xor, .reg .b => .xor_b
  | .xor, .reg .c => .xor_c
  | .xor, .reg .d => .xor_d
  | .xor, .reg .e => .xor_e
  | .xor, .reg .h => .xor_h
  | .xor, .reg .l => .xor_l
  | .xor, .atHL => .xor_atHL
  | .xor, .reg .a => .xor_a
  | .or, .reg .b => .or_b
  | .or, .reg .c => .or_c
  | .or, .reg .d => .or_d
  | .or, .reg .e => .or_e
  | .or, .reg .h => .or_h
  | .or, .reg .l => .or_l
  | .or, .atHL => .or_atHL
  | .or, .reg .a => .or_a
  | .cp, .reg .b => .cp_b
  | .cp, .reg .c => .cp_c
  | .cp, .reg .d => .cp_d
  | .cp, .reg .e => .cp_e
  | .cp, .reg .h => .cp_h
  | .cp, .reg .l => .cp_l
  | .cp, .atHL => .cp_atHL
  | .cp, .reg .a => .cp_a

/-- The rows of R240. -/
def instrAluImm (op : AluOp) (n : Byte) : Instr :=
  match op with
  | .add => .add_a_n8 n
  | .adc => .adc_a_n8 n
  | .sub => .sub_n8 n
  | .sbc => .sbc_a_n8 n
  | .and => .and_n8 n
  | .xor => .xor_n8 n
  | .or => .or_n8 n
  | .cp => .cp_n8 n

/-- The rows of R249. -/
def instrIncR8 (x : R8) : Instr :=
  match x with
  | .reg .b => .inc_b
  | .reg .c => .inc_c
  | .reg .d => .inc_d
  | .reg .e => .inc_e
  | .reg .h => .inc_h
  | .reg .l => .inc_l
  | .atHL => .inc_atHL
  | .reg .a => .inc_a

/-- The rows of R250. -/
def instrDecR8 (x : R8) : Instr :=
  match x with
  | .reg .b => .dec_b
  | .reg .c => .dec_c
  | .reg .d => .dec_d
  | .reg .e => .dec_e
  | .reg .h => .dec_h
  | .reg .l => .dec_l
  | .atHL => .dec_atHL
  | .reg .a => .dec_a

/-- The rows of R280. -/
def instrAddHl (p : Pair) : Instr :=
  match p with
  | .bc => .add_hl_bc
  | .de => .add_hl_de
  | .hl => .add_hl_hl
  | .sp => .add_hl_sp

/-- The rows of R281. -/
def instrIncPair (p : Pair) : Instr :=
  match p with
  | .bc => .inc_bc
  | .de => .inc_de
  | .hl => .inc_hl
  | .sp => .inc_sp

/-- The rows of R282. -/
def instrDecPair (p : Pair) : Instr :=
  match p with
  | .bc => .dec_bc
  | .de => .dec_de
  | .hl => .dec_hl
  | .sp => .dec_sp

/-- The rows of R304. -/
def instrRot (op : RotOp) (x : R8) : Instr :=
  match op, x with
  | .rlc, .reg .b => .rlc_b
  | .rlc, .reg .c => .rlc_c
  | .rlc, .reg .d => .rlc_d
  | .rlc, .reg .e => .rlc_e
  | .rlc, .reg .h => .rlc_h
  | .rlc, .reg .l => .rlc_l
  | .rlc, .atHL => .rlc_atHL
  | .rlc, .reg .a => .rlc_a
  | .rrc, .reg .b => .rrc_b
  | .rrc, .reg .c => .rrc_c
  | .rrc, .reg .d => .rrc_d
  | .rrc, .reg .e => .rrc_e
  | .rrc, .reg .h => .rrc_h
  | .rrc, .reg .l => .rrc_l
  | .rrc, .atHL => .rrc_atHL
  | .rrc, .reg .a => .rrc_a
  | .rl, .reg .b => .rl_b
  | .rl, .reg .c => .rl_c
  | .rl, .reg .d => .rl_d
  | .rl, .reg .e => .rl_e
  | .rl, .reg .h => .rl_h
  | .rl, .reg .l => .rl_l
  | .rl, .atHL => .rl_atHL
  | .rl, .reg .a => .rl_a
  | .rr, .reg .b => .rr_b
  | .rr, .reg .c => .rr_c
  | .rr, .reg .d => .rr_d
  | .rr, .reg .e => .rr_e
  | .rr, .reg .h => .rr_h
  | .rr, .reg .l => .rr_l
  | .rr, .atHL => .rr_atHL
  | .rr, .reg .a => .rr_a
  | .sla, .reg .b => .sla_b
  | .sla, .reg .c => .sla_c
  | .sla, .reg .d => .sla_d
  | .sla, .reg .e => .sla_e
  | .sla, .reg .h => .sla_h
  | .sla, .reg .l => .sla_l
  | .sla, .atHL => .sla_atHL
  | .sla, .reg .a => .sla_a
  | .sra, .reg .b => .sra_b
  | .sra, .reg .c => .sra_c
  | .sra, .reg .d => .sra_d
  | .sra, .reg .e => .sra_e
  | .sra, .reg .h => .sra_h
  | .sra, .reg .l => .sra_l
  | .sra, .atHL => .sra_atHL
  | .sra, .reg .a => .sra_a
  | .swap, .reg .b => .swap_b
  | .swap, .reg .c => .swap_c
  | .swap, .reg .d => .swap_d
  | .swap, .reg .e => .swap_e
  | .swap, .reg .h => .swap_h
  | .swap, .reg .l => .swap_l
  | .swap, .atHL => .swap_atHL
  | .swap, .reg .a => .swap_a
  | .srl, .reg .b => .srl_b
  | .srl, .reg .c => .srl_c
  | .srl, .reg .d => .srl_d
  | .srl, .reg .e => .srl_e
  | .srl, .reg .h => .srl_h
  | .srl, .reg .l => .srl_l
  | .srl, .atHL => .srl_atHL
  | .srl, .reg .a => .srl_a

/-- The rows of R330. -/
def instrBit (n : Oct) (x : R8) : Instr :=
  match n, x with
  | .d0, .reg .b => .bit_0_b
  | .d0, .reg .c => .bit_0_c
  | .d0, .reg .d => .bit_0_d
  | .d0, .reg .e => .bit_0_e
  | .d0, .reg .h => .bit_0_h
  | .d0, .reg .l => .bit_0_l
  | .d0, .atHL => .bit_0_atHL
  | .d0, .reg .a => .bit_0_a
  | .d1, .reg .b => .bit_1_b
  | .d1, .reg .c => .bit_1_c
  | .d1, .reg .d => .bit_1_d
  | .d1, .reg .e => .bit_1_e
  | .d1, .reg .h => .bit_1_h
  | .d1, .reg .l => .bit_1_l
  | .d1, .atHL => .bit_1_atHL
  | .d1, .reg .a => .bit_1_a
  | .d2, .reg .b => .bit_2_b
  | .d2, .reg .c => .bit_2_c
  | .d2, .reg .d => .bit_2_d
  | .d2, .reg .e => .bit_2_e
  | .d2, .reg .h => .bit_2_h
  | .d2, .reg .l => .bit_2_l
  | .d2, .atHL => .bit_2_atHL
  | .d2, .reg .a => .bit_2_a
  | .d3, .reg .b => .bit_3_b
  | .d3, .reg .c => .bit_3_c
  | .d3, .reg .d => .bit_3_d
  | .d3, .reg .e => .bit_3_e
  | .d3, .reg .h => .bit_3_h
  | .d3, .reg .l => .bit_3_l
  | .d3, .atHL => .bit_3_atHL
  | .d3, .reg .a => .bit_3_a
  | .d4, .reg .b => .bit_4_b
  | .d4, .reg .c => .bit_4_c
  | .d4, .reg .d => .bit_4_d
  | .d4, .reg .e => .bit_4_e
  | .d4, .reg .h => .bit_4_h
  | .d4, .reg .l => .bit_4_l
  | .d4, .atHL => .bit_4_atHL
  | .d4, .reg .a => .bit_4_a
  | .d5, .reg .b => .bit_5_b
  | .d5, .reg .c => .bit_5_c
  | .d5, .reg .d => .bit_5_d
  | .d5, .reg .e => .bit_5_e
  | .d5, .reg .h => .bit_5_h
  | .d5, .reg .l => .bit_5_l
  | .d5, .atHL => .bit_5_atHL
  | .d5, .reg .a => .bit_5_a
  | .d6, .reg .b => .bit_6_b
  | .d6, .reg .c => .bit_6_c
  | .d6, .reg .d => .bit_6_d
  | .d6, .reg .e => .bit_6_e
  | .d6, .reg .h => .bit_6_h
  | .d6, .reg .l => .bit_6_l
  | .d6, .atHL => .bit_6_atHL
  | .d6, .reg .a => .bit_6_a
  | .d7, .reg .b => .bit_7_b
  | .d7, .reg .c => .bit_7_c
  | .d7, .reg .d => .bit_7_d
  | .d7, .reg .e => .bit_7_e
  | .d7, .reg .h => .bit_7_h
  | .d7, .reg .l => .bit_7_l
  | .d7, .atHL => .bit_7_atHL
  | .d7, .reg .a => .bit_7_a

/-- The rows of R331. -/
def instrRes (n : Oct) (x : R8) : Instr :=
  match n, x with
  | .d0, .reg .b => .res_0_b
  | .d0, .reg .c => .res_0_c
  | .d0, .reg .d => .res_0_d
  | .d0, .reg .e => .res_0_e
  | .d0, .reg .h => .res_0_h
  | .d0, .reg .l => .res_0_l
  | .d0, .atHL => .res_0_atHL
  | .d0, .reg .a => .res_0_a
  | .d1, .reg .b => .res_1_b
  | .d1, .reg .c => .res_1_c
  | .d1, .reg .d => .res_1_d
  | .d1, .reg .e => .res_1_e
  | .d1, .reg .h => .res_1_h
  | .d1, .reg .l => .res_1_l
  | .d1, .atHL => .res_1_atHL
  | .d1, .reg .a => .res_1_a
  | .d2, .reg .b => .res_2_b
  | .d2, .reg .c => .res_2_c
  | .d2, .reg .d => .res_2_d
  | .d2, .reg .e => .res_2_e
  | .d2, .reg .h => .res_2_h
  | .d2, .reg .l => .res_2_l
  | .d2, .atHL => .res_2_atHL
  | .d2, .reg .a => .res_2_a
  | .d3, .reg .b => .res_3_b
  | .d3, .reg .c => .res_3_c
  | .d3, .reg .d => .res_3_d
  | .d3, .reg .e => .res_3_e
  | .d3, .reg .h => .res_3_h
  | .d3, .reg .l => .res_3_l
  | .d3, .atHL => .res_3_atHL
  | .d3, .reg .a => .res_3_a
  | .d4, .reg .b => .res_4_b
  | .d4, .reg .c => .res_4_c
  | .d4, .reg .d => .res_4_d
  | .d4, .reg .e => .res_4_e
  | .d4, .reg .h => .res_4_h
  | .d4, .reg .l => .res_4_l
  | .d4, .atHL => .res_4_atHL
  | .d4, .reg .a => .res_4_a
  | .d5, .reg .b => .res_5_b
  | .d5, .reg .c => .res_5_c
  | .d5, .reg .d => .res_5_d
  | .d5, .reg .e => .res_5_e
  | .d5, .reg .h => .res_5_h
  | .d5, .reg .l => .res_5_l
  | .d5, .atHL => .res_5_atHL
  | .d5, .reg .a => .res_5_a
  | .d6, .reg .b => .res_6_b
  | .d6, .reg .c => .res_6_c
  | .d6, .reg .d => .res_6_d
  | .d6, .reg .e => .res_6_e
  | .d6, .reg .h => .res_6_h
  | .d6, .reg .l => .res_6_l
  | .d6, .atHL => .res_6_atHL
  | .d6, .reg .a => .res_6_a
  | .d7, .reg .b => .res_7_b
  | .d7, .reg .c => .res_7_c
  | .d7, .reg .d => .res_7_d
  | .d7, .reg .e => .res_7_e
  | .d7, .reg .h => .res_7_h
  | .d7, .reg .l => .res_7_l
  | .d7, .atHL => .res_7_atHL
  | .d7, .reg .a => .res_7_a

/-- The rows of R332. -/
def instrSet (n : Oct) (x : R8) : Instr :=
  match n, x with
  | .d0, .reg .b => .set_0_b
  | .d0, .reg .c => .set_0_c
  | .d0, .reg .d => .set_0_d
  | .d0, .reg .e => .set_0_e
  | .d0, .reg .h => .set_0_h
  | .d0, .reg .l => .set_0_l
  | .d0, .atHL => .set_0_atHL
  | .d0, .reg .a => .set_0_a
  | .d1, .reg .b => .set_1_b
  | .d1, .reg .c => .set_1_c
  | .d1, .reg .d => .set_1_d
  | .d1, .reg .e => .set_1_e
  | .d1, .reg .h => .set_1_h
  | .d1, .reg .l => .set_1_l
  | .d1, .atHL => .set_1_atHL
  | .d1, .reg .a => .set_1_a
  | .d2, .reg .b => .set_2_b
  | .d2, .reg .c => .set_2_c
  | .d2, .reg .d => .set_2_d
  | .d2, .reg .e => .set_2_e
  | .d2, .reg .h => .set_2_h
  | .d2, .reg .l => .set_2_l
  | .d2, .atHL => .set_2_atHL
  | .d2, .reg .a => .set_2_a
  | .d3, .reg .b => .set_3_b
  | .d3, .reg .c => .set_3_c
  | .d3, .reg .d => .set_3_d
  | .d3, .reg .e => .set_3_e
  | .d3, .reg .h => .set_3_h
  | .d3, .reg .l => .set_3_l
  | .d3, .atHL => .set_3_atHL
  | .d3, .reg .a => .set_3_a
  | .d4, .reg .b => .set_4_b
  | .d4, .reg .c => .set_4_c
  | .d4, .reg .d => .set_4_d
  | .d4, .reg .e => .set_4_e
  | .d4, .reg .h => .set_4_h
  | .d4, .reg .l => .set_4_l
  | .d4, .atHL => .set_4_atHL
  | .d4, .reg .a => .set_4_a
  | .d5, .reg .b => .set_5_b
  | .d5, .reg .c => .set_5_c
  | .d5, .reg .d => .set_5_d
  | .d5, .reg .e => .set_5_e
  | .d5, .reg .h => .set_5_h
  | .d5, .reg .l => .set_5_l
  | .d5, .atHL => .set_5_atHL
  | .d5, .reg .a => .set_5_a
  | .d6, .reg .b => .set_6_b
  | .d6, .reg .c => .set_6_c
  | .d6, .reg .d => .set_6_d
  | .d6, .reg .e => .set_6_e
  | .d6, .reg .h => .set_6_h
  | .d6, .reg .l => .set_6_l
  | .d6, .atHL => .set_6_atHL
  | .d6, .reg .a => .set_6_a
  | .d7, .reg .b => .set_7_b
  | .d7, .reg .c => .set_7_c
  | .d7, .reg .d => .set_7_d
  | .d7, .reg .e => .set_7_e
  | .d7, .reg .h => .set_7_h
  | .d7, .reg .l => .set_7_l
  | .d7, .atHL => .set_7_atHL
  | .d7, .reg .a => .set_7_a

/-- The rows of R352. -/
def instrJpCc (cc : Cond) (a : Word) : Instr :=
  match cc with
  | .nz => .jp_nz_a16 a
  | .z => .jp_z_a16 a
  | .nc => .jp_nc_a16 a
  | .c => .jp_c_a16 a

/-- The rows of R355. -/
def instrJrCc (cc : Cond) (e : Byte) : Instr :=
  match cc with
  | .nz => .jr_nz_e8 e
  | .z => .jr_z_e8 e
  | .nc => .jr_nc_e8 e
  | .c => .jr_c_e8 e

/-- The rows of R357. -/
def instrCallCc (cc : Cond) (a : Word) : Instr :=
  match cc with
  | .nz => .call_nz_a16 a
  | .z => .call_z_a16 a
  | .nc => .call_nc_a16 a
  | .c => .call_c_a16 a

/-- The rows of R358. -/
def instrRst (t : Oct) : Instr :=
  match t with
  | .d0 => .rst_00
  | .d1 => .rst_08
  | .d2 => .rst_10
  | .d3 => .rst_18
  | .d4 => .rst_20
  | .d5 => .rst_28
  | .d6 => .rst_30
  | .d7 => .rst_38

/-- The rows of R360. -/
def instrRetCc (cc : Cond) : Instr :=
  match cc with
  | .nz => .ret_nz
  | .z => .ret_z
  | .nc => .ret_nc
  | .c => .ret_c

/-- The instruction a form with these operand fields is. -/
def Form.instr (o : Form) : Instr :=
  match o with
  | .ldRegReg rd rs => instrLdRegReg rd rs
  | .ldRegMem rd => instrLdRegMem rd
  | .ldMemReg rs => instrLdMemReg rs
  | .ldRegImm rd n => instrLdRegImm rd n
  | .ldMemImm n => .ld_atHL_n8 n
  | .ldAPtr p => instrLdAPtr p
  | .ldPtrA p => instrLdPtrA p
  | .ldAHli => .ld_a_atHLI
  | .ldAHld => .ld_a_atHLD
  | .ldHliA => .ld_atHLI_a
  | .ldHldA => .ld_atHLD_a
  | .ldAAbs a => .ld_a_atA16 a
  | .ldAbsA a => .ld_atA16_a a
  | .ldhAImm n => .ldh_a_atA8 n
  | .ldhImmA n => .ldh_atA8_a n
  | .ldhAC => .ld_a_atC
  | .ldhCA => .ld_atC_a
  | .ldPairImm p n => instrLdPairImm p n
  | .ldAbsSp a => .ld_atA16_sp a
  | .ldSpHl => .ld_sp_hl
  | .ldHlSp e => .ld_hl_sp_e8 e
  | .push p => instrPush p
  | .pop p => instrPop p
  | .alu op x => instrAlu op x
  | .aluImm op n => instrAluImm op n
  | .incR8 x => instrIncR8 x
  | .decR8 x => instrDecR8 x
  | .daa => .daa
  | .cpl => .cpl
  | .scf => .scf
  | .ccf => .ccf
  | .addHl p => instrAddHl p
  | .incPair p => instrIncPair p
  | .decPair p => instrDecPair p
  | .addSp e => .add_sp_e8 e
  | .rlca => .rlca
  | .rrca => .rrca
  | .rla => .rla
  | .rra => .rra
  | .rot op x => instrRot op x
  | .bit n x => instrBit n x
  | .res n x => instrRes n x
  | .set n x => instrSet n x
  | .jp a => .jp_a16 a
  | .jpCc cc a => instrJpCc cc a
  | .jpHl => .jp_hl
  | .jr e => .jr_e8 e
  | .jrCc cc e => instrJrCc cc e
  | .call a => .call_a16 a
  | .callCc cc a => instrCallCc cc a
  | .rst t => instrRst t
  | .ret => .ret
  | .retCc cc => instrRetCc cc
  | .reti => .reti
  | .nop => .nop
  | .halt => .halt
  | .stop n => .stop n
  | .di => .di
  | .ei => .ei

/-! ## Decoding -/

/-- What the first byte of an instruction selects (R101, R118): a form that needs no further byte, one that takes the
byte or the two bytes that follow, the CB table, or nothing. -/
inductive Shape where
  | plain (o : Form)
  | imm8 (o : Byte → Form)
  | imm16 (o : Word → Form)
  | prefixCB
  | undefined

/-- Base opcodes with x = 0 (R112, rows 0 to 3). -/
def shapeX0 (op : Byte) : Shape :=
  match (fieldZ op).toNat with
  | 0 =>
    match (fieldY op).toNat with
    | 0 => .plain .nop
    | 1 => .imm16 .ldAbsSp
    | 2 => .imm8 .stop
    | 3 => .imm8 .jr
    | _ => .imm8 (.jrCc (condOfCode (fieldCc op)))
  | 1 =>
    match (fieldQ op).toNat with
    | 0 => .imm16 (.ldPairImm (pairOfCode (fieldP op)))
    | _ => .plain (.addHl (pairOfCode (fieldP op)))
  | 2 =>
    match (fieldY op).toNat with
    | 0 => .plain (.ldPtrA .bc)
    | 1 => .plain (.ldAPtr .bc)
    | 2 => .plain (.ldPtrA .de)
    | 3 => .plain (.ldAPtr .de)
    | 4 => .plain .ldHliA
    | 5 => .plain .ldAHli
    | 6 => .plain .ldHldA
    | _ => .plain .ldAHld
  | 3 =>
    match (fieldQ op).toNat with
    | 0 => .plain (.incPair (pairOfCode (fieldP op)))
    | _ => .plain (.decPair (pairOfCode (fieldP op)))
  | 4 => .plain (.incR8 (r8OfCode (fieldY op)))
  | 5 => .plain (.decR8 (r8OfCode (fieldY op)))
  | 6 =>
    match r8OfCode (fieldY op) with
    | .reg rd => .imm8 (.ldRegImm rd)
    | .atHL => .imm8 .ldMemImm
  | _ =>
    match (fieldY op).toNat with
    | 0 => .plain .rlca
    | 1 => .plain .rrca
    | 2 => .plain .rla
    | 3 => .plain .rra
    | 4 => .plain .daa
    | 5 => .plain .cpl
    | 6 => .plain .scf
    | _ => .plain .ccf

/-- Base opcodes with x = 1: the register-to-register load block, in which 0x76 is HALT (R102, R119). -/
def shapeX1 (op : Byte) : Shape :=
  match r8OfCode (fieldY op), r8OfCode (fieldZ op) with
  | .reg rd, .reg rs => .plain (.ldRegReg rd rs)
  | .reg rd, .atHL => .plain (.ldRegMem rd)
  | .atHL, .reg rs => .plain (.ldMemReg rs)
  | .atHL, .atHL => .plain .halt

/-- Base opcodes with x = 3 (R112, rows C to F). -/
def shapeX3 (op : Byte) : Shape :=
  match (fieldZ op).toNat with
  | 0 =>
    match (fieldY op).toNat with
    | 4 => .imm8 .ldhImmA
    | 5 => .imm8 .addSp
    | 6 => .imm8 .ldhAImm
    | 7 => .imm8 .ldHlSp
    | _ => .plain (.retCc (condOfCode (fieldCc op)))
  | 1 =>
    match (fieldQ op).toNat with
    | 0 => .plain (.pop (stackPairOfCode (fieldP op)))
    | _ =>
      match (fieldP op).toNat with
      | 0 => .plain .ret
      | 1 => .plain .reti
      | 2 => .plain .jpHl
      | _ => .plain .ldSpHl
  | 2 =>
    match (fieldY op).toNat with
    | 4 => .plain .ldhCA
    | 5 => .imm16 .ldAbsA
    | 6 => .plain .ldhAC
    | 7 => .imm16 .ldAAbs
    | _ => .imm16 (.jpCc (condOfCode (fieldCc op)))
  | 3 =>
    match (fieldY op).toNat with
    | 0 => .imm16 .jp
    | 1 => .prefixCB
    | 6 => .plain .di
    | 7 => .plain .ei
    | _ => .undefined
  | 4 =>
    match (fieldY op).toNat with
    | 0 => .imm16 (.callCc .nz)
    | 1 => .imm16 (.callCc .z)
    | 2 => .imm16 (.callCc .nc)
    | 3 => .imm16 (.callCc .c)
    | _ => .undefined
  | 5 =>
    match (fieldQ op).toNat with
    | 0 => .plain (.push (stackPairOfCode (fieldP op)))
    | _ =>
      match (fieldP op).toNat with
      | 0 => .imm16 .call
      | _ => .undefined
  | 6 => .imm8 (.aluImm (aluOfCode (fieldY op)))
  | _ => .plain (.rst (octOfCode (fieldY op)))

/-- The base table (R112, R142). -/
def baseShape (op : Byte) : Shape :=
  match (fieldX op).toNat with
  | 0 => shapeX0 op
  | 1 => shapeX1 op
  | 2 => .plain (.alu (aluOfCode (fieldY op)) (r8OfCode (fieldZ op)))
  | _ => shapeX3 op

/-- The CB table: all 256 sub-opcodes are defined (R113, R115). -/
def cbForm (sub : Byte) : Form :=
  match (fieldX sub).toNat with
  | 0 => .rot (rotOfCode (fieldY sub)) (r8OfCode (fieldZ sub))
  | 1 => .bit (octOfCode (fieldY sub)) (r8OfCode (fieldZ sub))
  | 2 => .res (octOfCode (fieldY sub)) (r8OfCode (fieldZ sub))
  | _ => .set (octOfCode (fieldY sub)) (r8OfCode (fieldZ sub))

/-- What the decoder answers: the form and the bytes after it, or a rejection by name. -/
inductive Parsed where
  | form (o : Form) (rest : List Byte)
  | undefinedOpcode (op : Byte)
  | truncated
  deriving DecidableEq, Repr

/-- Decode the form at the head of a byte string (R118). -/
def decodeForm : List Byte → Parsed
  | [] => .truncated
  | op :: rest =>
    match baseShape op with
    | .plain o => .form o rest
    | .imm8 o =>
      match rest with
      | n :: rest => .form (o n) rest
      | [] => .truncated
    | .imm16 o =>
      match rest with
      | lo :: hi :: rest => .form (o (pairOf hi lo)) rest
      | _ => .truncated
    | .prefixCB =>
      match rest with
      | sub :: rest => .form (cbForm sub) rest
      | [] => .truncated
    | .undefined => .undefinedOpcode op

/-- What the decoder answers, as an instruction. DESIGN CHOICE, safe: a string that ends inside an instruction is
`truncated`, which no step meets (log entry 17). -/
inductive Decoded where
  | instr (i : Instr) (rest : List Byte)
  | undefinedOpcode (op : Byte)
  | truncated
  deriving DecidableEq, Repr

/-- Decode the instruction at the head of a byte string. -/
def decode (bs : List Byte) : Decoded :=
  match decodeForm bs with
  | .form o rest => .instr o.instr rest
  | .undefinedOpcode op => .undefinedOpcode op
  | .truncated => .truncated

/-- The bytes of a table word, three of them, zeros above its width. The table numbers a CB row as one 16-bit number
with the prefix byte 0xCB on top (its `match` is 0xCB00 and up) and every other row as its opcode byte, so the byte
order of a word is told by where 0xCB stands (log entry 7). -/
def tableBytes (nbits w : Nat) : List Byte :=
  if nbits = 16 ∧ w / 256 % 256 = 0xCB then [0xCB, BitVec.ofNat 8 w, 0]
  else [BitVec.ofNat 8 w, BitVec.ofNat 8 (w / 256), BitVec.ofNat 8 (w / 65536)]

/-- The instruction the decoder reads from a table word. -/
def decodeTableWord (nbits w : Nat) : Option Instr :=
  match decode (tableBytes nbits w) with
  | .instr i _ => some i
  | .undefinedOpcode _ => none
  | .truncated => none

/-! ## Encoding -/

/-- The bytes of an instruction, from the opcode maps (R101, R112, R113): the opcode or the prefix and the
sub-opcode, then the immediate, low byte first (R74). -/
def encode (i : Instr) : List Byte :=
  match i with
  | .nop => [0x00]
  | .ld_bc_n16 n => [0x01, loByte n, hiByte n]
  | .ld_atBC_a => [0x02]
  | .inc_bc => [0x03]
  | .inc_b => [0x04]
  | .dec_b => [0x05]
  | .ld_b_n8 n => [0x06, n]
  | .rlca => [0x07]
  | .ld_atA16_sp a => [0x08, loByte a, hiByte a]
  | .add_hl_bc => [0x09]
  | .ld_a_atBC => [0x0A]
  | .dec_bc => [0x0B]
  | .inc_c => [0x0C]
  | .dec_c => [0x0D]
  | .ld_c_n8 n => [0x0E, n]
  | .rrca => [0x0F]
  | .stop n => [0x10, n]
  | .ld_de_n16 n => [0x11, loByte n, hiByte n]
  | .ld_atDE_a => [0x12]
  | .inc_de => [0x13]
  | .inc_d => [0x14]
  | .dec_d => [0x15]
  | .ld_d_n8 n => [0x16, n]
  | .rla => [0x17]
  | .jr_e8 e => [0x18, e]
  | .add_hl_de => [0x19]
  | .ld_a_atDE => [0x1A]
  | .dec_de => [0x1B]
  | .inc_e => [0x1C]
  | .dec_e => [0x1D]
  | .ld_e_n8 n => [0x1E, n]
  | .rra => [0x1F]
  | .jr_nz_e8 e => [0x20, e]
  | .ld_hl_n16 n => [0x21, loByte n, hiByte n]
  | .ld_atHLI_a => [0x22]
  | .inc_hl => [0x23]
  | .inc_h => [0x24]
  | .dec_h => [0x25]
  | .ld_h_n8 n => [0x26, n]
  | .daa => [0x27]
  | .jr_z_e8 e => [0x28, e]
  | .add_hl_hl => [0x29]
  | .ld_a_atHLI => [0x2A]
  | .dec_hl => [0x2B]
  | .inc_l => [0x2C]
  | .dec_l => [0x2D]
  | .ld_l_n8 n => [0x2E, n]
  | .cpl => [0x2F]
  | .jr_nc_e8 e => [0x30, e]
  | .ld_sp_n16 n => [0x31, loByte n, hiByte n]
  | .ld_atHLD_a => [0x32]
  | .inc_sp => [0x33]
  | .inc_atHL => [0x34]
  | .dec_atHL => [0x35]
  | .ld_atHL_n8 n => [0x36, n]
  | .scf => [0x37]
  | .jr_c_e8 e => [0x38, e]
  | .add_hl_sp => [0x39]
  | .ld_a_atHLD => [0x3A]
  | .dec_sp => [0x3B]
  | .inc_a => [0x3C]
  | .dec_a => [0x3D]
  | .ld_a_n8 n => [0x3E, n]
  | .ccf => [0x3F]
  | .ld_b_b => [0x40]
  | .ld_b_c => [0x41]
  | .ld_b_d => [0x42]
  | .ld_b_e => [0x43]
  | .ld_b_h => [0x44]
  | .ld_b_l => [0x45]
  | .ld_b_atHL => [0x46]
  | .ld_b_a => [0x47]
  | .ld_c_b => [0x48]
  | .ld_c_c => [0x49]
  | .ld_c_d => [0x4A]
  | .ld_c_e => [0x4B]
  | .ld_c_h => [0x4C]
  | .ld_c_l => [0x4D]
  | .ld_c_atHL => [0x4E]
  | .ld_c_a => [0x4F]
  | .ld_d_b => [0x50]
  | .ld_d_c => [0x51]
  | .ld_d_d => [0x52]
  | .ld_d_e => [0x53]
  | .ld_d_h => [0x54]
  | .ld_d_l => [0x55]
  | .ld_d_atHL => [0x56]
  | .ld_d_a => [0x57]
  | .ld_e_b => [0x58]
  | .ld_e_c => [0x59]
  | .ld_e_d => [0x5A]
  | .ld_e_e => [0x5B]
  | .ld_e_h => [0x5C]
  | .ld_e_l => [0x5D]
  | .ld_e_atHL => [0x5E]
  | .ld_e_a => [0x5F]
  | .ld_h_b => [0x60]
  | .ld_h_c => [0x61]
  | .ld_h_d => [0x62]
  | .ld_h_e => [0x63]
  | .ld_h_h => [0x64]
  | .ld_h_l => [0x65]
  | .ld_h_atHL => [0x66]
  | .ld_h_a => [0x67]
  | .ld_l_b => [0x68]
  | .ld_l_c => [0x69]
  | .ld_l_d => [0x6A]
  | .ld_l_e => [0x6B]
  | .ld_l_h => [0x6C]
  | .ld_l_l => [0x6D]
  | .ld_l_atHL => [0x6E]
  | .ld_l_a => [0x6F]
  | .ld_atHL_b => [0x70]
  | .ld_atHL_c => [0x71]
  | .ld_atHL_d => [0x72]
  | .ld_atHL_e => [0x73]
  | .ld_atHL_h => [0x74]
  | .ld_atHL_l => [0x75]
  | .halt => [0x76]
  | .ld_atHL_a => [0x77]
  | .ld_a_b => [0x78]
  | .ld_a_c => [0x79]
  | .ld_a_d => [0x7A]
  | .ld_a_e => [0x7B]
  | .ld_a_h => [0x7C]
  | .ld_a_l => [0x7D]
  | .ld_a_atHL => [0x7E]
  | .ld_a_a => [0x7F]
  | .add_a_b => [0x80]
  | .add_a_c => [0x81]
  | .add_a_d => [0x82]
  | .add_a_e => [0x83]
  | .add_a_h => [0x84]
  | .add_a_l => [0x85]
  | .add_a_atHL => [0x86]
  | .add_a_a => [0x87]
  | .adc_a_b => [0x88]
  | .adc_a_c => [0x89]
  | .adc_a_d => [0x8A]
  | .adc_a_e => [0x8B]
  | .adc_a_h => [0x8C]
  | .adc_a_l => [0x8D]
  | .adc_a_atHL => [0x8E]
  | .adc_a_a => [0x8F]
  | .sub_b => [0x90]
  | .sub_c => [0x91]
  | .sub_d => [0x92]
  | .sub_e => [0x93]
  | .sub_h => [0x94]
  | .sub_l => [0x95]
  | .sub_atHL => [0x96]
  | .sub_a => [0x97]
  | .sbc_a_b => [0x98]
  | .sbc_a_c => [0x99]
  | .sbc_a_d => [0x9A]
  | .sbc_a_e => [0x9B]
  | .sbc_a_h => [0x9C]
  | .sbc_a_l => [0x9D]
  | .sbc_a_atHL => [0x9E]
  | .sbc_a_a => [0x9F]
  | .and_b => [0xA0]
  | .and_c => [0xA1]
  | .and_d => [0xA2]
  | .and_e => [0xA3]
  | .and_h => [0xA4]
  | .and_l => [0xA5]
  | .and_atHL => [0xA6]
  | .and_a => [0xA7]
  | .xor_b => [0xA8]
  | .xor_c => [0xA9]
  | .xor_d => [0xAA]
  | .xor_e => [0xAB]
  | .xor_h => [0xAC]
  | .xor_l => [0xAD]
  | .xor_atHL => [0xAE]
  | .xor_a => [0xAF]
  | .or_b => [0xB0]
  | .or_c => [0xB1]
  | .or_d => [0xB2]
  | .or_e => [0xB3]
  | .or_h => [0xB4]
  | .or_l => [0xB5]
  | .or_atHL => [0xB6]
  | .or_a => [0xB7]
  | .cp_b => [0xB8]
  | .cp_c => [0xB9]
  | .cp_d => [0xBA]
  | .cp_e => [0xBB]
  | .cp_h => [0xBC]
  | .cp_l => [0xBD]
  | .cp_atHL => [0xBE]
  | .cp_a => [0xBF]
  | .ret_nz => [0xC0]
  | .pop_bc => [0xC1]
  | .jp_nz_a16 a => [0xC2, loByte a, hiByte a]
  | .jp_a16 a => [0xC3, loByte a, hiByte a]
  | .call_nz_a16 a => [0xC4, loByte a, hiByte a]
  | .push_bc => [0xC5]
  | .add_a_n8 n => [0xC6, n]
  | .rst_00 => [0xC7]
  | .ret_z => [0xC8]
  | .ret => [0xC9]
  | .jp_z_a16 a => [0xCA, loByte a, hiByte a]
  | .call_z_a16 a => [0xCC, loByte a, hiByte a]
  | .call_a16 a => [0xCD, loByte a, hiByte a]
  | .adc_a_n8 n => [0xCE, n]
  | .rst_08 => [0xCF]
  | .ret_nc => [0xD0]
  | .pop_de => [0xD1]
  | .jp_nc_a16 a => [0xD2, loByte a, hiByte a]
  | .call_nc_a16 a => [0xD4, loByte a, hiByte a]
  | .push_de => [0xD5]
  | .sub_n8 n => [0xD6, n]
  | .rst_10 => [0xD7]
  | .ret_c => [0xD8]
  | .reti => [0xD9]
  | .jp_c_a16 a => [0xDA, loByte a, hiByte a]
  | .call_c_a16 a => [0xDC, loByte a, hiByte a]
  | .sbc_a_n8 n => [0xDE, n]
  | .rst_18 => [0xDF]
  | .ldh_atA8_a n => [0xE0, n]
  | .pop_hl => [0xE1]
  | .ld_atC_a => [0xE2]
  | .push_hl => [0xE5]
  | .and_n8 n => [0xE6, n]
  | .rst_20 => [0xE7]
  | .add_sp_e8 e => [0xE8, e]
  | .jp_hl => [0xE9]
  | .ld_atA16_a a => [0xEA, loByte a, hiByte a]
  | .xor_n8 n => [0xEE, n]
  | .rst_28 => [0xEF]
  | .ldh_a_atA8 n => [0xF0, n]
  | .pop_af => [0xF1]
  | .ld_a_atC => [0xF2]
  | .di => [0xF3]
  | .push_af => [0xF5]
  | .or_n8 n => [0xF6, n]
  | .rst_30 => [0xF7]
  | .ld_hl_sp_e8 e => [0xF8, e]
  | .ld_sp_hl => [0xF9]
  | .ld_a_atA16 a => [0xFA, loByte a, hiByte a]
  | .ei => [0xFB]
  | .cp_n8 n => [0xFE, n]
  | .rst_38 => [0xFF]
  | .rlc_b => [0xCB, 0x00]
  | .rlc_c => [0xCB, 0x01]
  | .rlc_d => [0xCB, 0x02]
  | .rlc_e => [0xCB, 0x03]
  | .rlc_h => [0xCB, 0x04]
  | .rlc_l => [0xCB, 0x05]
  | .rlc_atHL => [0xCB, 0x06]
  | .rlc_a => [0xCB, 0x07]
  | .rrc_b => [0xCB, 0x08]
  | .rrc_c => [0xCB, 0x09]
  | .rrc_d => [0xCB, 0x0A]
  | .rrc_e => [0xCB, 0x0B]
  | .rrc_h => [0xCB, 0x0C]
  | .rrc_l => [0xCB, 0x0D]
  | .rrc_atHL => [0xCB, 0x0E]
  | .rrc_a => [0xCB, 0x0F]
  | .rl_b => [0xCB, 0x10]
  | .rl_c => [0xCB, 0x11]
  | .rl_d => [0xCB, 0x12]
  | .rl_e => [0xCB, 0x13]
  | .rl_h => [0xCB, 0x14]
  | .rl_l => [0xCB, 0x15]
  | .rl_atHL => [0xCB, 0x16]
  | .rl_a => [0xCB, 0x17]
  | .rr_b => [0xCB, 0x18]
  | .rr_c => [0xCB, 0x19]
  | .rr_d => [0xCB, 0x1A]
  | .rr_e => [0xCB, 0x1B]
  | .rr_h => [0xCB, 0x1C]
  | .rr_l => [0xCB, 0x1D]
  | .rr_atHL => [0xCB, 0x1E]
  | .rr_a => [0xCB, 0x1F]
  | .sla_b => [0xCB, 0x20]
  | .sla_c => [0xCB, 0x21]
  | .sla_d => [0xCB, 0x22]
  | .sla_e => [0xCB, 0x23]
  | .sla_h => [0xCB, 0x24]
  | .sla_l => [0xCB, 0x25]
  | .sla_atHL => [0xCB, 0x26]
  | .sla_a => [0xCB, 0x27]
  | .sra_b => [0xCB, 0x28]
  | .sra_c => [0xCB, 0x29]
  | .sra_d => [0xCB, 0x2A]
  | .sra_e => [0xCB, 0x2B]
  | .sra_h => [0xCB, 0x2C]
  | .sra_l => [0xCB, 0x2D]
  | .sra_atHL => [0xCB, 0x2E]
  | .sra_a => [0xCB, 0x2F]
  | .swap_b => [0xCB, 0x30]
  | .swap_c => [0xCB, 0x31]
  | .swap_d => [0xCB, 0x32]
  | .swap_e => [0xCB, 0x33]
  | .swap_h => [0xCB, 0x34]
  | .swap_l => [0xCB, 0x35]
  | .swap_atHL => [0xCB, 0x36]
  | .swap_a => [0xCB, 0x37]
  | .srl_b => [0xCB, 0x38]
  | .srl_c => [0xCB, 0x39]
  | .srl_d => [0xCB, 0x3A]
  | .srl_e => [0xCB, 0x3B]
  | .srl_h => [0xCB, 0x3C]
  | .srl_l => [0xCB, 0x3D]
  | .srl_atHL => [0xCB, 0x3E]
  | .srl_a => [0xCB, 0x3F]
  | .bit_0_b => [0xCB, 0x40]
  | .bit_0_c => [0xCB, 0x41]
  | .bit_0_d => [0xCB, 0x42]
  | .bit_0_e => [0xCB, 0x43]
  | .bit_0_h => [0xCB, 0x44]
  | .bit_0_l => [0xCB, 0x45]
  | .bit_0_atHL => [0xCB, 0x46]
  | .bit_0_a => [0xCB, 0x47]
  | .bit_1_b => [0xCB, 0x48]
  | .bit_1_c => [0xCB, 0x49]
  | .bit_1_d => [0xCB, 0x4A]
  | .bit_1_e => [0xCB, 0x4B]
  | .bit_1_h => [0xCB, 0x4C]
  | .bit_1_l => [0xCB, 0x4D]
  | .bit_1_atHL => [0xCB, 0x4E]
  | .bit_1_a => [0xCB, 0x4F]
  | .bit_2_b => [0xCB, 0x50]
  | .bit_2_c => [0xCB, 0x51]
  | .bit_2_d => [0xCB, 0x52]
  | .bit_2_e => [0xCB, 0x53]
  | .bit_2_h => [0xCB, 0x54]
  | .bit_2_l => [0xCB, 0x55]
  | .bit_2_atHL => [0xCB, 0x56]
  | .bit_2_a => [0xCB, 0x57]
  | .bit_3_b => [0xCB, 0x58]
  | .bit_3_c => [0xCB, 0x59]
  | .bit_3_d => [0xCB, 0x5A]
  | .bit_3_e => [0xCB, 0x5B]
  | .bit_3_h => [0xCB, 0x5C]
  | .bit_3_l => [0xCB, 0x5D]
  | .bit_3_atHL => [0xCB, 0x5E]
  | .bit_3_a => [0xCB, 0x5F]
  | .bit_4_b => [0xCB, 0x60]
  | .bit_4_c => [0xCB, 0x61]
  | .bit_4_d => [0xCB, 0x62]
  | .bit_4_e => [0xCB, 0x63]
  | .bit_4_h => [0xCB, 0x64]
  | .bit_4_l => [0xCB, 0x65]
  | .bit_4_atHL => [0xCB, 0x66]
  | .bit_4_a => [0xCB, 0x67]
  | .bit_5_b => [0xCB, 0x68]
  | .bit_5_c => [0xCB, 0x69]
  | .bit_5_d => [0xCB, 0x6A]
  | .bit_5_e => [0xCB, 0x6B]
  | .bit_5_h => [0xCB, 0x6C]
  | .bit_5_l => [0xCB, 0x6D]
  | .bit_5_atHL => [0xCB, 0x6E]
  | .bit_5_a => [0xCB, 0x6F]
  | .bit_6_b => [0xCB, 0x70]
  | .bit_6_c => [0xCB, 0x71]
  | .bit_6_d => [0xCB, 0x72]
  | .bit_6_e => [0xCB, 0x73]
  | .bit_6_h => [0xCB, 0x74]
  | .bit_6_l => [0xCB, 0x75]
  | .bit_6_atHL => [0xCB, 0x76]
  | .bit_6_a => [0xCB, 0x77]
  | .bit_7_b => [0xCB, 0x78]
  | .bit_7_c => [0xCB, 0x79]
  | .bit_7_d => [0xCB, 0x7A]
  | .bit_7_e => [0xCB, 0x7B]
  | .bit_7_h => [0xCB, 0x7C]
  | .bit_7_l => [0xCB, 0x7D]
  | .bit_7_atHL => [0xCB, 0x7E]
  | .bit_7_a => [0xCB, 0x7F]
  | .res_0_b => [0xCB, 0x80]
  | .res_0_c => [0xCB, 0x81]
  | .res_0_d => [0xCB, 0x82]
  | .res_0_e => [0xCB, 0x83]
  | .res_0_h => [0xCB, 0x84]
  | .res_0_l => [0xCB, 0x85]
  | .res_0_atHL => [0xCB, 0x86]
  | .res_0_a => [0xCB, 0x87]
  | .res_1_b => [0xCB, 0x88]
  | .res_1_c => [0xCB, 0x89]
  | .res_1_d => [0xCB, 0x8A]
  | .res_1_e => [0xCB, 0x8B]
  | .res_1_h => [0xCB, 0x8C]
  | .res_1_l => [0xCB, 0x8D]
  | .res_1_atHL => [0xCB, 0x8E]
  | .res_1_a => [0xCB, 0x8F]
  | .res_2_b => [0xCB, 0x90]
  | .res_2_c => [0xCB, 0x91]
  | .res_2_d => [0xCB, 0x92]
  | .res_2_e => [0xCB, 0x93]
  | .res_2_h => [0xCB, 0x94]
  | .res_2_l => [0xCB, 0x95]
  | .res_2_atHL => [0xCB, 0x96]
  | .res_2_a => [0xCB, 0x97]
  | .res_3_b => [0xCB, 0x98]
  | .res_3_c => [0xCB, 0x99]
  | .res_3_d => [0xCB, 0x9A]
  | .res_3_e => [0xCB, 0x9B]
  | .res_3_h => [0xCB, 0x9C]
  | .res_3_l => [0xCB, 0x9D]
  | .res_3_atHL => [0xCB, 0x9E]
  | .res_3_a => [0xCB, 0x9F]
  | .res_4_b => [0xCB, 0xA0]
  | .res_4_c => [0xCB, 0xA1]
  | .res_4_d => [0xCB, 0xA2]
  | .res_4_e => [0xCB, 0xA3]
  | .res_4_h => [0xCB, 0xA4]
  | .res_4_l => [0xCB, 0xA5]
  | .res_4_atHL => [0xCB, 0xA6]
  | .res_4_a => [0xCB, 0xA7]
  | .res_5_b => [0xCB, 0xA8]
  | .res_5_c => [0xCB, 0xA9]
  | .res_5_d => [0xCB, 0xAA]
  | .res_5_e => [0xCB, 0xAB]
  | .res_5_h => [0xCB, 0xAC]
  | .res_5_l => [0xCB, 0xAD]
  | .res_5_atHL => [0xCB, 0xAE]
  | .res_5_a => [0xCB, 0xAF]
  | .res_6_b => [0xCB, 0xB0]
  | .res_6_c => [0xCB, 0xB1]
  | .res_6_d => [0xCB, 0xB2]
  | .res_6_e => [0xCB, 0xB3]
  | .res_6_h => [0xCB, 0xB4]
  | .res_6_l => [0xCB, 0xB5]
  | .res_6_atHL => [0xCB, 0xB6]
  | .res_6_a => [0xCB, 0xB7]
  | .res_7_b => [0xCB, 0xB8]
  | .res_7_c => [0xCB, 0xB9]
  | .res_7_d => [0xCB, 0xBA]
  | .res_7_e => [0xCB, 0xBB]
  | .res_7_h => [0xCB, 0xBC]
  | .res_7_l => [0xCB, 0xBD]
  | .res_7_atHL => [0xCB, 0xBE]
  | .res_7_a => [0xCB, 0xBF]
  | .set_0_b => [0xCB, 0xC0]
  | .set_0_c => [0xCB, 0xC1]
  | .set_0_d => [0xCB, 0xC2]
  | .set_0_e => [0xCB, 0xC3]
  | .set_0_h => [0xCB, 0xC4]
  | .set_0_l => [0xCB, 0xC5]
  | .set_0_atHL => [0xCB, 0xC6]
  | .set_0_a => [0xCB, 0xC7]
  | .set_1_b => [0xCB, 0xC8]
  | .set_1_c => [0xCB, 0xC9]
  | .set_1_d => [0xCB, 0xCA]
  | .set_1_e => [0xCB, 0xCB]
  | .set_1_h => [0xCB, 0xCC]
  | .set_1_l => [0xCB, 0xCD]
  | .set_1_atHL => [0xCB, 0xCE]
  | .set_1_a => [0xCB, 0xCF]
  | .set_2_b => [0xCB, 0xD0]
  | .set_2_c => [0xCB, 0xD1]
  | .set_2_d => [0xCB, 0xD2]
  | .set_2_e => [0xCB, 0xD3]
  | .set_2_h => [0xCB, 0xD4]
  | .set_2_l => [0xCB, 0xD5]
  | .set_2_atHL => [0xCB, 0xD6]
  | .set_2_a => [0xCB, 0xD7]
  | .set_3_b => [0xCB, 0xD8]
  | .set_3_c => [0xCB, 0xD9]
  | .set_3_d => [0xCB, 0xDA]
  | .set_3_e => [0xCB, 0xDB]
  | .set_3_h => [0xCB, 0xDC]
  | .set_3_l => [0xCB, 0xDD]
  | .set_3_atHL => [0xCB, 0xDE]
  | .set_3_a => [0xCB, 0xDF]
  | .set_4_b => [0xCB, 0xE0]
  | .set_4_c => [0xCB, 0xE1]
  | .set_4_d => [0xCB, 0xE2]
  | .set_4_e => [0xCB, 0xE3]
  | .set_4_h => [0xCB, 0xE4]
  | .set_4_l => [0xCB, 0xE5]
  | .set_4_atHL => [0xCB, 0xE6]
  | .set_4_a => [0xCB, 0xE7]
  | .set_5_b => [0xCB, 0xE8]
  | .set_5_c => [0xCB, 0xE9]
  | .set_5_d => [0xCB, 0xEA]
  | .set_5_e => [0xCB, 0xEB]
  | .set_5_h => [0xCB, 0xEC]
  | .set_5_l => [0xCB, 0xED]
  | .set_5_atHL => [0xCB, 0xEE]
  | .set_5_a => [0xCB, 0xEF]
  | .set_6_b => [0xCB, 0xF0]
  | .set_6_c => [0xCB, 0xF1]
  | .set_6_d => [0xCB, 0xF2]
  | .set_6_e => [0xCB, 0xF3]
  | .set_6_h => [0xCB, 0xF4]
  | .set_6_l => [0xCB, 0xF5]
  | .set_6_atHL => [0xCB, 0xF6]
  | .set_6_a => [0xCB, 0xF7]
  | .set_7_b => [0xCB, 0xF8]
  | .set_7_c => [0xCB, 0xF9]
  | .set_7_d => [0xCB, 0xFA]
  | .set_7_e => [0xCB, 0xFB]
  | .set_7_h => [0xCB, 0xFC]
  | .set_7_l => [0xCB, 0xFD]
  | .set_7_atHL => [0xCB, 0xFE]
  | .set_7_a => [0xCB, 0xFF]

/-- The form of an instruction, read from its own encoding. -/
def Instr.form (i : Instr) : Form :=
  match decodeForm (encode i) with
  | .form o _ => o
  | .undefinedOpcode _ => .nop
  | .truncated => .nop

end Sys2Proof
end

