-- ==== Sys2Proof/Config.lean ====
section
/-! DEFINITION. The implementation parameters of R9, with the values the spec's decisions fix, and the values
this model names where the spec leaves them to the model. -/

namespace Sys2Proof

/-- `RESET_PROFILE`: which register values `reset()` writes (R9, R48, decision D7). -/
inductive ResetProfile where
  /-- PC = 0x0000; A to L, F[7:4] and SP are drawn. -/
  | powerOn
  /-- The state the original boot ROM leaves at the cartridge entry, PC = 0x0100. -/
  | postBootDmg
  deriving DecidableEq, Repr

/-- The values that a reset under `POWER_ON` draws: "A model that must be deterministic takes the drawn values as
an argument" (R450, U14). -/
structure PowerOnDraw where
  a : Byte
  f : Byte
  b : Byte
  c : Byte
  d : Byte
  e : Byte
  h : Byte
  l : Byte
  sp : Word
  deriving DecidableEq, Repr

/-- `IDLE_TICK_CYCLES` = 4 (R9, R151, decision D3). -/
def Config.idleTickCycles : Count := 4

/-- `INTERRUPT_ENTRY_CYCLES` = 20 (R9, R415, decision D5). -/
def Config.interruptEntryCycles : Count := 20

/-- `RESET_PROFILE`, default `POWER_ON` (R9, decision D7). It decides `State.reset` alone; the `reset()`
transaction takes the profile as an argument. -/
def Config.resetProfile : ResetProfile := .powerOn

/-- DESIGN CHOICE, unsafe (log entry 1). The spec gives these registers no value under `POWER_ON`; `State.reset`
draws zero for each. The `reset()` transaction takes them as an argument. -/
def Config.powerOnDraw : PowerOnDraw :=
  { a := 0, f := 0, b := 0, c := 0, d := 0, e := 0, h := 0, l := 0, sp := 0 }

/-- PRESUMED, unsafe (log entry 2). `OPEN_BUS_VALUE` is an open parameter of the bus; 0xFF is the spec's "typical
value" (R9, R72, decision D13). It decides `State.reset` alone: every statement holds for every value. -/
def Config.openBusValue : Byte := 0xFF

/-- `BUS_FAULT_ENABLED`, default false (R9, decision D14). It decides `State.reset` alone: the bus in the state
carries the parameter, and true is allowed. -/
def Config.busFaultEnabled : Bool := false

end Sys2Proof
end

