-- ==== Sys2Proof/Machine/State.lean ====
section
/-! DEFINITION. The state of the machine as plain data: the fields of R30, the external bus the core reaches memory
through (R71), the reasons a step can stop, and the state after reset (R48, R450). -/

namespace Sys2Proof.Machine

/-- The run state of the execution engine (R42). -/
inductive RunState where
  | running
  | halted
  | stopped
  deriving DecidableEq, Repr

/-- The two calls of the consumed bus interface (R71). -/
inductive Access where
  | read
  | write
  deriving DecidableEq, Repr

/-- One bus call, as seen on the bus: "Every call is one observable bus event" (R14). DESIGN CHOICE, safe: the model
keeps them in its state (log entry 5). -/
inductive BusEvent where
  | read (addr : Word)
  | write (addr : Word) (value : Byte)
  deriving DecidableEq, Repr

/-- Addresses lo to hi at which the bus has nothing mapped for a read, for a write, or for both. Which they are is
the platform's to say (R72, R81, R402). DESIGN CHOICE, unsafe: the map is fixed data in the state (log entry 4). -/
structure Hole where
  lo : Word
  hi : Word
  onRead : Bool
  onWrite : Bool
  deriving DecidableEq, Repr

/-- The bytes behind the bus: (address, byte) pairs in one canonical form (`Memory.wf`), and `OPEN_BUS_VALUE`, which
an unlisted address reads as (R9, R70, R72). DESIGN CHOICE, unsafe: the bus answers as plain memory (log entry 3). -/
structure Memory where
  cells : List Host.Cell
  openBus : Byte
  deriving DecidableEq, Repr

/-- The external bus (R71): its memory, `BUS_FAULT_ENABLED` (R9; DEDUCED, safe, log entry 15), the holes in its map,
and every bus event so far, oldest first (R14, R79). -/
structure Bus where
  mem : Memory
  faultEnabled : Bool
  holes : List Hole
  events : List BusEvent
  deriving DecidableEq, Repr

/-- The machine: the record of R30 and the bus. -/
structure State where
  a : Byte
  f : Byte
  b : Byte
  c : Byte
  d : Byte
  e : Byte
  h : Byte
  l : Byte
  sp : Word
  pc : Word
  cycles : Count
  run : RunState
  ime : Bool
  imePending : Bool
  bus : Bus
  deriving DecidableEq, Repr

/-- The two errors of the core (R400). They return to the host and are not traps (R403). InvalidOpcode carries
nothing but its record, since `transact` gives the state after it; BusFault carries the bus (log entries 6 and 19). -/
inductive Fault where
  /-- Raised by the fetch of `step` alone, at one of the eleven undefined base opcodes, with the opcode and its
  address. The core state is unchanged (R385, R401). Safe: the spec itself makes the step an error. -/
  | invalidOpcode (opcode : Byte) (pc : Word)
  /-- Raised by any bus access that the bus rejects, which needs `BUS_FAULT_ENABLED`: the address, the kind of access,
  the PC of the step, and the bus as it stood at that access: "Every bus access listed before the faulting one has
  occurred" (R402). The core state after it is unspecified, so the run ends here; a `reset()` then is
  `State.resetInto` over this bus. Safe: the spec itself makes the step an error. -/
  | busFault (addr : Word) (kind : Access) (pc0 : Word) (bus : Bus)
  deriving DecidableEq, Repr

/-- Reasons the model gives an instruction no meaning. -/
inductive Refusal where
  /-- Would be raised by an arm of `exec` whose instruction is not modelled. No arm is. Safe. -/
  | notModelled (mnemonic : String)
  deriving DecidableEq, Repr

/-- `reset()` over a bus: it writes every field of R30 with the value of R48 under the profile and performs no bus
access (R450). -/
def State.resetInto (p : ResetProfile) (v : PowerOnDraw) (bus : Bus) : State :=
  match p with
  | .powerOn =>
    { a := v.a, f := v.f &&& 0xF0, b := v.b, c := v.c, d := v.d, e := v.e, h := v.h, l := v.l,
      sp := v.sp, pc := 0x0000, cycles := 0, run := .running, ime := false, imePending := false, bus := bus }
  | .postBootDmg =>
    { a := 0x01, f := 0xB0, b := 0x00, c := 0x13, d := 0x00, e := 0xD8, h := 0x01, l := 0x4D,
      sp := 0xFFFE, pc := 0x0100, cycles := 0, run := .running, ime := false, imePending := false, bus := bus }

/-- The bus of `State.reset`: no byte listed, no hole, no event yet. -/
def Bus.reset : Bus :=
  { mem := { cells := [], openBus := Config.openBusValue }, faultEnabled := Config.busFaultEnabled,
    holes := [], events := [] }

/-- The machine right after reset, which is also its power-on state (R450, R451). DEDUCED, safe: the default profile
(log entry 14). -/
def State.reset : State :=
  State.resetInto Config.resetProfile Config.powerOnDraw Bus.reset

end Sys2Proof.Machine
end

