-- ==== Sys2Proof/Machine/Flags.lean ====
section
/-! DEFINITION. The flag register (R36 to R38) and every result and flag computation the spec gives: each computes
exactly on Nat or Int and narrows at the end. -/

namespace Sys2Proof.Machine

/-- The four flags by name (R38). -/
inductive Flag where
  | zero
  | subtract
  | halfCarry
  | carry
  deriving DecidableEq, Repr

/-- The values of the four flags. -/
structure Flags where
  z : Bool
  n : Bool
  h : Bool
  c : Bool
  deriving DecidableEq, Repr

/-- The bit of each flag in F: Z = 7, N = 6, H = 5, C = 4 (R36). -/
def Flag.mask : Flag → Byte
  | .zero => 0x80
  | .subtract => 0x40
  | .halfCarry => 0x20
  | .carry => 0x10

/-- R38. -/
def testFlag (k : Flag) (f : Byte) : Bool := f &&& k.mask != 0

/-- R38. -/
def setFlag (k : Flag) (f : Byte) : Byte := f ||| k.mask

/-- R38. -/
def clearFlag (k : Flag) (f : Byte) : Byte := f &&& ~~~k.mask

/-- R38. -/
def assignFlag (k : Flag) (v : Bool) (f : Byte) : Byte := if v then setFlag k f else clearFlag k f

/-- The four flags of F. -/
def readFlags (f : Byte) : Flags :=
  { z := testFlag .zero f, n := testFlag .subtract f, h := testFlag .halfCarry f, c := testFlag .carry f }

/-- Write all four flags: bits 7:4 alone change (R37). -/
def writeFlags (v : Flags) (f : Byte) : Byte :=
  assignFlag .zero v.z (assignFlag .subtract v.n (assignFlag .halfCarry v.h (assignFlag .carry v.c f)))

/-- The flags of the state. -/
def State.flags (s : State) : Flags := readFlags s.f

/-- Write the four flags of the state. -/
def State.setFlags (v : Flags) (s : State) : State := { s with f := writeFlags v s.f }

/-- ADD and ADC: H is the carry out of bit 3, C the carry out of bit 7 (R241, R242). -/
def add8 (a v : Byte) (cin : Bool) : Byte × Flags :=
  let t := a.toNat + v.toNat + cin.toNat
  (BitVec.ofNat 8 t,
    { z := BitVec.ofNat 8 t == 0, n := false,
      h := decide (a.toNat % 16 + v.toNat % 16 + cin.toNat > 0x0F), c := decide (t > 0xFF) })

/-- SUB, SBC and CP: H is the borrow from bit 4, C the borrow from bit 8 (R243, R244, R248). -/
def sub8 (a v : Byte) (cin : Bool) : Byte × Flags :=
  let t : Int := (a.toNat : Int) - (v.toNat : Int) - (cin.toNat : Int)
  (BitVec.ofInt 8 t,
    { z := BitVec.ofInt 8 t == 0, n := true,
      h := decide ((a.toNat % 16 : Int) - (v.toNat % 16 : Int) - (cin.toNat : Int) < 0), c := decide (t < 0) })

/-- AND sets H, and clears N and C (R245). -/
def and8 (a v : Byte) : Byte × Flags := (a &&& v, { z := a &&& v == 0, n := false, h := true, c := false })

/-- XOR clears N, H and C (R246). -/
def xor8 (a v : Byte) : Byte × Flags := (a ^^^ v, { z := a ^^^ v == 0, n := false, h := false, c := false })

/-- OR clears N, H and C (R247). -/
def or8 (a v : Byte) : Byte × Flags := (a ||| v, { z := a ||| v == 0, n := false, h := false, c := false })

/-- The new A and flags of `alu[y]` (R110, R241 to R248). CP keeps A. -/
def aluResult (op : AluOp) (a v : Byte) (carry : Bool) : Byte × Flags :=
  match op with
  | .add => add8 a v false
  | .adc => add8 a v carry
  | .sub => sub8 a v false
  | .sbc => sub8 a v carry
  | .and => and8 a v
  | .xor => xor8 a v
  | .or => or8 a v
  | .cp => (a, (sub8 a v false).2)

/-- INC s8: H is the carry out of bit 3, C is unchanged (R249). -/
def inc8 (v : Byte) (old : Flags) : Byte × Flags :=
  (v + 1, { z := v + 1 == 0, n := false, h := v &&& 0x0F == 0x0F, c := old.c })

/-- DEC s8: H is the borrow from bit 4, C is unchanged (R250). -/
def dec8 (v : Byte) (old : Flags) : Byte × Flags :=
  (v - 1, { z := v - 1 == 0, n := true, h := v &&& 0x0F == 0x00, c := old.c })

/-- DAA's corrected A and its carry (R251). -/
def daaAdjust (a : Byte) (old : Flags) : Byte × Bool :=
  if old.n then
    let a1 := if old.c then a - 0x60 else a
    (if old.h then a1 - 0x06 else a1, old.c)
  else
    let high := old.c || decide (a.toNat > 0x99)
    let a1 := if high then a + 0x60 else a
    (if old.h || decide ((a1 &&& 0x0F).toNat > 0x09) then a1 + 0x06 else a1, high)

/-- DAA: Z from the result, N unchanged, H cleared, C as adjusted (R251). -/
def daa8 (a : Byte) (old : Flags) : Byte × Flags :=
  ((daaAdjust a old).1, { z := (daaAdjust a old).1 == 0, n := old.n, h := false, c := (daaAdjust a old).2 })

/-- CPL: N and H set, Z and C unchanged (R252). -/
def cplFlags (old : Flags) : Flags := { z := old.z, n := true, h := true, c := old.c }

/-- SCF (R253). -/
def scfFlags (old : Flags) : Flags := { z := old.z, n := false, h := false, c := true }

/-- CCF: H is cleared and does not receive the old carry (R254). -/
def ccfFlags (old : Flags) : Flags := { z := old.z, n := false, h := false, c := !old.c }

/-- ADD HL,rr: Z unchanged, H from bit 11, C from bit 15 (R280). -/
def addHl16 (hl v : Word) (old : Flags) : Word × Flags :=
  let t := hl.toNat + v.toNat
  (BitVec.ofNat 16 t,
    { z := old.z, n := false, h := decide ((hl &&& 0x0FFF).toNat + (v &&& 0x0FFF).toNat > 0x0FFF),
      c := decide (t > 0xFFFF) })

/-- `sext_16`: two's complement extension of a displacement (R12). -/
def sext16 (e : Byte) : Word := e.signExtend 16

/-- `zext_16` (R12). -/
def zext16 (v : Byte) : Word := v.setWidth 16

/-- SP + e8, with H and C from the unsigned addition of the raw byte to SP's low byte, and Z = N = 0 (R213, R283). -/
def addSpDisp (sp : Word) (e : Byte) : Word × Flags :=
  (sp + sext16 e,
    { z := false, n := false, h := decide ((sp &&& 0x0F).toNat + (e &&& 0x0F).toNat > 0x0F),
      c := decide ((sp &&& 0xFF).toNat + e.toNat > 0xFF) })

/-- A flag as the bit 0 of a byte. -/
def bitByte (v : Bool) : Byte := if v then 1 else 0

/-- The result of a rotate, shift or SWAP, and the bit shifted out (0 for SWAP), with the C flag before it
(R300 to R303, R305 to R312). -/
def rotResult (op : RotOp) (v : Byte) (carry : Bool) : Byte × Bool :=
  match op with
  | .rlc => ((v <<< 1) ||| bitByte (v.getLsbD 7), v.getLsbD 7)
  | .rrc => ((v >>> 1) ||| (bitByte (v.getLsbD 0) <<< 7), v.getLsbD 0)
  | .rl => ((v <<< 1) ||| bitByte carry, v.getLsbD 7)
  | .rr => ((v >>> 1) ||| (bitByte carry <<< 7), v.getLsbD 0)
  | .sla => (v <<< 1, v.getLsbD 7)
  | .sra => ((v >>> 1) ||| (v &&& 0x80), v.getLsbD 0)
  | .swap => ((v <<< 4) ||| (v >>> 4), false)
  | .srl => (v >>> 1, v.getLsbD 0)

/-- The CB rotates, shifts and SWAP write all four flags, Z from the result (R304). -/
def rotCbFlags (r : Byte × Bool) : Flags := { z := r.1 == 0, n := false, h := false, c := r.2 }

/-- The accumulator rotates write Z = N = H = 0 (R300 to R303, conflict C4). -/
def rotAccFlags (r : Byte × Bool) : Flags := { z := false, n := false, h := false, c := r.2 }

/-- The bit index as a shift amount (R330). -/
def octNat : Oct → Nat
  | .d0 => 0
  | .d1 => 1
  | .d2 => 2
  | .d3 => 3
  | .d4 => 4
  | .d5 => 5
  | .d6 => 6
  | .d7 => 7

/-- BIT: Z is the complement of the tested bit, N = 0, H = 1, C unchanged (R330). -/
def bitFlags (n : Oct) (v : Byte) (old : Flags) : Flags :=
  { z := !v.getLsbD (octNat n), n := false, h := true, c := old.c }

/-- RES (R331). -/
def resBit (n : Oct) (v : Byte) : Byte := v &&& ~~~((1 : Byte) <<< octNat n)

/-- SET (R332). -/
def setBit (n : Oct) (v : Byte) : Byte := v ||| ((1 : Byte) <<< octNat n)

/-- `cond(cc)`: it reads F only (R109, R350). -/
def condHolds (cc : Cond) (fl : Flags) : Bool :=
  match cc with
  | .nz => !fl.z
  | .z => fl.z
  | .nc => !fl.c
  | .c => fl.c

end Sys2Proof.Machine
end

