-- ==== Sys2Proof/Machine/Ops.lean ====
section
/-! DEFINITION. The named operations over memory, the bus and the registers, the end of an instruction, interrupt
entry and the return from it, the EI promotion and the idle tick. -/

namespace Sys2Proof.Machine

/-! ## Results -/

/-- What an operation answers: a value, a fault or a refusal. -/
abbrev Result (α : Type) := Host.Outcome α Fault Refusal

/-- Run the second operation on the first one's answer; the first fault ends both (R404). -/
def andThen {α β : Type} (x : Result α) (k : α → Result β) : Result β :=
  match x with
  | .next v => k v
  | .fault r => .fault r
  | .refused r => .refused r

/-! ## Memory (R70): a canonical list of cells -/

/-- The byte listed at an address. -/
def lookupCell (a : Nat) : List Host.Cell → Option Byte
  | [] => none
  | c :: rest => if c.1 = a then some c.2 else lookupCell a rest

/-- List a byte at its address, in rising order. -/
def insertCell (a : Nat) (v : Byte) : List Host.Cell → List Host.Cell
  | [] => [(a, v)]
  | c :: rest =>
    if a < c.1 then (a, v) :: c :: rest
    else if a = c.1 then (a, v) :: rest
    else c :: insertCell a v rest

/-- Unlist an address. -/
def eraseCell (a : Nat) : List Host.Cell → List Host.Cell
  | [] => []
  | c :: rest => if c.1 = a then eraseCell a rest else c :: eraseCell a rest

/-- What an address that is not listed reads as: `OPEN_BUS_VALUE` (R72). DESIGN CHOICE, unsafe (log entry 3). -/
def Memory.unlisted (m : Memory) : Byte := m.openBus

/-- The byte at an address. -/
def Memory.read (m : Memory) (a : Word) : Byte := (lookupCell a.toNat m.cells).getD m.unlisted

/-- Store a byte: writing the value an unlisted address reads as removes the entry. -/
def Memory.write (m : Memory) (a : Word) (v : Byte) : Memory :=
  { m with cells := if v = m.unlisted then eraseCell a.toNat m.cells else insertCell a.toNat v m.cells }

/-- Strictly rising addresses. -/
def risingCells : List Host.Cell → Bool
  | [] => true
  | c :: rest =>
    (match rest with
      | [] => true
      | d :: _ => decide (c.1 < d.1)) && risingCells rest

/-- The canonical form: rising addresses inside the 16-bit space, no entry equal to what an unlisted address reads
as. -/
def Memory.wf (m : Memory) : Bool :=
  risingCells m.cells && m.cells.all fun c => decide (c.1 < 65536) && c.2 != m.unlisted

/-! ## The bus (R71, R72, R402) -/

/-- A hole covers the accesses of its kinds at its addresses. -/
def Hole.covers (h : Hole) (k : Access) (a : Word) : Bool :=
  (match k with
    | .read => h.onRead
    | .write => h.onWrite) && decide (h.lo.toNat ≤ a.toNat) && decide (a.toNat ≤ h.hi.toNat)

/-- Nothing is mapped for this access. -/
def Bus.unmapped (b : Bus) (k : Access) (a : Word) : Bool := b.holes.any fun h => h.covers k a

/-- The bus rejects an access only if `BUS_FAULT_ENABLED` (R72, R402). -/
def Bus.rejects (b : Bus) (k : Access) (a : Word) : Bool := b.faultEnabled && b.unmapped k a

/-- The byte a read answers: `OPEN_BUS_VALUE` where nothing is mapped, the memory byte elsewhere (R72). -/
def Bus.peek (b : Bus) (a : Word) : Byte := if b.unmapped .read a then b.mem.openBus else b.mem.read a

/-- The bus after one read call: one event, no other change. -/
def Bus.afterRead (b : Bus) (a : Word) : Bus := { b with events := b.events ++ [.read a] }

/-- The bus after one write call: one event, and the byte stored where something is mapped. DESIGN
CHOICE, unsafe (log entry 4). -/
def Bus.afterWrite (b : Bus) (a : Word) (v : Byte) : Bus :=
  { b with mem := if b.unmapped .write a then b.mem else b.mem.write a v, events := b.events ++ [.write a v] }

/-- `MemRead(a, 1)` (R14). A rejected access raises BusFault with the PC of the step and the bus as it stands at
that access, with every one before it done (R402; DEDUCED, safe, log entry 19). -/
def readByte (a : Word) (s : State) : Result (Byte × State) :=
  if s.bus.rejects .read a then .fault (.busFault a .read s.pc s.bus)
  else .next (s.bus.peek a, { s with bus := s.bus.afterRead a })

/-- `MemWrite(a, 1, v)` (R14). -/
def writeByte (a : Word) (v : Byte) (s : State) : Result State :=
  if s.bus.rejects .write a then .fault (.busFault a .write s.pc s.bus)
  else .next { s with bus := s.bus.afterWrite a v }

/-- `MemRead(a, 2)`: the low byte first, at the lower address, which wraps (R14, R73, R76). -/
def readWord (a : Word) (s : State) : Result (Word × State) :=
  andThen (readByte a s) fun lo =>
  andThen (readByte (a + 1) lo.2) fun hi =>
  .next (pairOf hi.1 lo.1, hi.2)

/-- `MemWrite(a, 2, v)`: the low byte first, at the lower address, which wraps (R14, R73, R76). -/
def writeWord (a : Word) (v : Word) (s : State) : Result State :=
  andThen (writeByte a (loByte v) s) fun s1 => writeByte (a + 1) (hiByte v) s1

/-! ## Registers (R32 to R35) -/

/-- Read a general register. -/
def State.reg (r : Reg) (s : State) : Byte :=
  match r with
  | .b => s.b
  | .c => s.c
  | .d => s.d
  | .e => s.e
  | .h => s.h
  | .l => s.l
  | .a => s.a

/-- Write a general register. -/
def State.setReg (r : Reg) (v : Byte) (s : State) : State :=
  match r with
  | .b => { s with b := v }
  | .c => { s with c := v }
  | .d => { s with d := v }
  | .e => { s with e := v }
  | .h => { s with h := v }
  | .l => { s with l := v }
  | .a => { s with a := v }

/-- `HL = {H, L}` (R34). -/
def State.hl (s : State) : Word := pairOf s.h s.l

/-- Read `rp[k]` (R34, R107). -/
def State.pair (p : Pair) (s : State) : Word :=
  match p with
  | .bc => pairOf s.b s.c
  | .de => pairOf s.d s.e
  | .hl => s.hl
  | .sp => s.sp

/-- Write `rp[k]`: both halves of a pair (R34, R107). -/
def State.setPair (p : Pair) (v : Word) (s : State) : State :=
  match p with
  | .bc => { s with b := hiByte v, c := loByte v }
  | .de => { s with d := hiByte v, e := loByte v }
  | .hl => { s with h := hiByte v, l := loByte v }
  | .sp => { s with sp := v }

/-- Read `rp2[k]`; AF reads {A, F} (R35, R108). -/
def State.stackPair (p : StackPair) (s : State) : Word :=
  match p with
  | .bc => s.pair .bc
  | .de => s.pair .de
  | .hl => s.hl
  | .af => pairOf s.a s.f

/-- Write `rp2[k]`; a whole write of F clears its low nibble (R35, R37, R108). -/
def State.setStackPair (p : StackPair) (v : Word) (s : State) : State :=
  match p with
  | .bc => s.setPair .bc v
  | .de => s.setPair .de v
  | .hl => s.setPair .hl v
  | .af => { s with a := hiByte v, f := loByte v &&& 0xF0 }

/-! ## The stack (R41) -/

/-- `SP <- SP - 2; MemWrite(SP, 2, v)` (R214). -/
def pushWord (v : Word) (s : State) : Result State :=
  writeWord (s.sp - 2) v { s with sp := s.sp - 2 }

/-- `v <- MemRead(SP, 2); SP <- SP + 2` (R215). -/
def popWord (s : State) : Result (Word × State) :=
  andThen (readWord s.sp s) fun r => .next (r.1, { r.2 with sp := r.2.sp + 2 })

/-! ## The end of an instruction (R145, R146)

DEDUCED, safe: PC holds the instruction's own address until here, where the spec presets it (log entry 11). -/

/-- An instruction that is not a control transfer ends with PC = pc_next and adds its cost. -/
def retire (len : Word) (cost : Count) (s : State) : State :=
  { s with pc := s.pc + len, cycles := s.cycles + cost }

/-- A control transfer ends with PC at its target and adds its cost. -/
def jumpTo (target : Word) (cost : Count) (s : State) : State :=
  { s with pc := target, cycles := s.cycles + cost }

/-! ## Interrupt entry and return (R415, R361) -/

/-- Entry to an accepted interrupt, the core's one exception entry: IME and its pending bit are cleared, the core
runs, PC is pushed, PC takes the vector and the entry's cost is added (R415). -/
def enterInterrupt (v : Word) (s : State) : Result State :=
  andThen (pushWord s.pc { s with ime := false, imePending := false, run := .running }) fun s1 =>
  .next (jumpTo v Config.interruptEntryCycles s1)

/-- The return from an interrupt: PC is popped and IME is 1 at once; nothing else is restored (R361, R418). -/
def returnFromInterrupt (cost : Count) (s : State) : Result State :=
  andThen (popWord s) fun r =>
  .next (jumpTo r.1 cost { r.2 with ime := true, imePending := false })

/-! ## Around an instruction (R143) -/

/-- The EI delay: at the end of a step that began with the pending bit 1 and still has it 1, IME becomes 1 (R412). -/
def promote (sampled : Bool) (s : State) : State :=
  if sampled && s.imePending then { s with ime := true, imePending := false } else s

/-- The idle tick of a Halted or Stopped core: only the counter changes (R151). -/
def idleTick (s : State) : State := { s with cycles := s.cycles + Config.idleTickCycles }

end Sys2Proof.Machine
end

