-- ==== Sys2Proof/Machine/Operands.lean ====
section
/-! DEFINITION. The operand forms: the field `r8[k]` with its memory form, the address of a pointer pair and of the
high page, and the targets of JR and RST. -/

namespace Sys2Proof.Machine

/-- Read `r8[k]`; for (HL) one bus read (R106). -/
def readR8 (x : R8) (s : State) : Result (Byte × State) :=
  match x with
  | .reg r => .next (s.reg r, s)
  | .atHL => readByte s.hl s

/-- Write `r8[k]`; for (HL) one bus write (R106). -/
def writeR8 (x : R8) (v : Byte) (s : State) : Result State :=
  match x with
  | .reg r => .next (s.setReg r v)
  | .atHL => writeByte s.hl v s

/-- The cost of a form with an `r8` operand: one for a register, one for (HL) (R117). -/
def r8Cost (x : R8) (register memory : Count) : Count :=
  match x with
  | .reg _ => register
  | .atHL => memory

/-- The address in BC or DE (R185, R186). -/
def State.ptr (p : Ptr) (s : State) : Word :=
  match p with
  | .bc => s.pair .bc
  | .de => s.pair .de

/-- The high-page address `{0xFF, n}` (R103, R104). -/
def highPage (n : Byte) : Word := 0xFF00 + zext16 n

/-- The target of JR: relative to the address of the following instruction (R105, R354). -/
def jrTarget (pc : Word) (e : Byte) : Word := pc + 2 + sext16 e

/-- The target of RST: `t * 8` (R104, R358). -/
def rstTarget (t : Oct) : Word := BitVec.ofNat 16 (octNat t * 8)

end Sys2Proof.Machine
end

