-- ==== Sys2Proof/Machine/Alu16.lean ====
section
/-! DEFINITION. The 16-bit arithmetic (R280 to R283). -/

namespace Sys2Proof.Machine

/-- ADD HL,rr (R280). -/
def opAddHl (p : Pair) (s : State) : Result State :=
  .next (retire 1 8 ((s.setPair .hl (addHl16 s.hl (s.pair p) s.flags).1).setFlags
    (addHl16 s.hl (s.pair p) s.flags).2))

/-- INC rr: no flag changes (R281). -/
def opIncPair (p : Pair) (s : State) : Result State := .next (retire 1 8 (s.setPair p (s.pair p + 1)))

/-- DEC rr: no flag changes (R282). -/
def opDecPair (p : Pair) (s : State) : Result State := .next (retire 1 8 (s.setPair p (s.pair p - 1)))

/-- ADD SP,e8 (R283). -/
def opAddSp (e : Byte) (s : State) : Result State :=
  .next (retire 2 16 ((s.setPair .sp (addSpDisp s.sp e).1).setFlags (addSpDisp s.sp e).2))

/-! ## The instructions -/

/-- INC BC (R281). -/
def exec_inc_bc (s : State) : Result State := opIncPair .bc s

/-- ADD HL,BC (R280). -/
def exec_add_hl_bc (s : State) : Result State := opAddHl .bc s

/-- DEC BC (R282). -/
def exec_dec_bc (s : State) : Result State := opDecPair .bc s

/-- INC DE (R281). -/
def exec_inc_de (s : State) : Result State := opIncPair .de s

/-- ADD HL,DE (R280). -/
def exec_add_hl_de (s : State) : Result State := opAddHl .de s

/-- DEC DE (R282). -/
def exec_dec_de (s : State) : Result State := opDecPair .de s

/-- INC HL (R281). -/
def exec_inc_hl (s : State) : Result State := opIncPair .hl s

/-- ADD HL,HL (R280). -/
def exec_add_hl_hl (s : State) : Result State := opAddHl .hl s

/-- DEC HL (R282). -/
def exec_dec_hl (s : State) : Result State := opDecPair .hl s

/-- INC SP (R281). -/
def exec_inc_sp (s : State) : Result State := opIncPair .sp s

/-- ADD HL,SP (R280). -/
def exec_add_hl_sp (s : State) : Result State := opAddHl .sp s

/-- DEC SP (R282). -/
def exec_dec_sp (s : State) : Result State := opDecPair .sp s

/-- ADD SP,e8 (R283). -/
def exec_add_sp_e8 (e : Byte) (s : State) : Result State := opAddSp e s

end Sys2Proof.Machine
end

