-- ==== Sys2Proof/Machine/Alu8.lean ====
section
/-! DEFINITION. The 8-bit arithmetic and logic (R240 to R254). -/

namespace Sys2Proof.Machine

/-- Apply `alu[y]` to A and the operand: A and the four flags are written (R240). -/
def State.applyAlu (op : AluOp) (v : Byte) (s : State) : State :=
  ((s.setReg .a (aluResult op s.a v s.flags.c).1).setFlags (aluResult op s.a v s.flags.c).2)

/-- `alu[y]` with `r8[z]`: 4 cycles for a register, 8 for (HL), which is read once (R240). -/
def opAlu (op : AluOp) (x : R8) (s : State) : Result State :=
  andThen (readR8 x s) fun r => .next (retire 1 (r8Cost x 4 8) (r.2.applyAlu op r.1))

/-- `alu[y]` with n8 (R240). -/
def opAluImm (op : AluOp) (n : Byte) (s : State) : Result State := .next (retire 2 8 (s.applyAlu op n))

/-- INC s8: for (HL) a read, then a write (R249). -/
def opIncR8 (x : R8) (s : State) : Result State :=
  andThen (readR8 x s) fun r =>
  andThen (writeR8 x (inc8 r.1 s.flags).1 r.2) fun s2 =>
  .next (retire 1 (r8Cost x 4 12) (s2.setFlags (inc8 r.1 s.flags).2))

/-- DEC s8: for (HL) a read, then a write (R250). -/
def opDecR8 (x : R8) (s : State) : Result State :=
  andThen (readR8 x s) fun r =>
  andThen (writeR8 x (dec8 r.1 s.flags).1 r.2) fun s2 =>
  .next (retire 1 (r8Cost x 4 12) (s2.setFlags (dec8 r.1 s.flags).2))

/-- DAA (R251). -/
def opDaa (s : State) : Result State :=
  .next (retire 1 4 ((s.setReg .a (daa8 s.a s.flags).1).setFlags (daa8 s.a s.flags).2))

/-- CPL (R252). -/
def opCpl (s : State) : Result State :=
  .next (retire 1 4 ((s.setReg .a (~~~s.a)).setFlags (cplFlags s.flags)))

/-- SCF (R253). -/
def opScf (s : State) : Result State := .next (retire 1 4 (s.setFlags (scfFlags s.flags)))

/-- CCF (R254). -/
def opCcf (s : State) : Result State := .next (retire 1 4 (s.setFlags (ccfFlags s.flags)))

/-! ## The instructions -/

/-- INC B (R249). -/
def exec_inc_b (s : State) : Result State := opIncR8 (.reg .b) s

/-- DEC B (R250). -/
def exec_dec_b (s : State) : Result State := opDecR8 (.reg .b) s

/-- INC C (R249). -/
def exec_inc_c (s : State) : Result State := opIncR8 (.reg .c) s

/-- DEC C (R250). -/
def exec_dec_c (s : State) : Result State := opDecR8 (.reg .c) s

/-- INC D (R249). -/
def exec_inc_d (s : State) : Result State := opIncR8 (.reg .d) s

/-- DEC D (R250). -/
def exec_dec_d (s : State) : Result State := opDecR8 (.reg .d) s

/-- INC E (R249). -/
def exec_inc_e (s : State) : Result State := opIncR8 (.reg .e) s

/-- DEC E (R250). -/
def exec_dec_e (s : State) : Result State := opDecR8 (.reg .e) s

/-- INC H (R249). -/
def exec_inc_h (s : State) : Result State := opIncR8 (.reg .h) s

/-- DEC H (R250). -/
def exec_dec_h (s : State) : Result State := opDecR8 (.reg .h) s

/-- DAA (R251). -/
def exec_daa (s : State) : Result State := opDaa s

/-- INC L (R249). -/
def exec_inc_l (s : State) : Result State := opIncR8 (.reg .l) s

/-- DEC L (R250). -/
def exec_dec_l (s : State) : Result State := opDecR8 (.reg .l) s

/-- CPL (R252). -/
def exec_cpl (s : State) : Result State := opCpl s

/-- INC (HL) (R249). -/
def exec_inc_atHL (s : State) : Result State := opIncR8 .atHL s

/-- DEC (HL) (R250). -/
def exec_dec_atHL (s : State) : Result State := opDecR8 .atHL s

/-- SCF (R253). -/
def exec_scf (s : State) : Result State := opScf s

/-- INC A (R249). -/
def exec_inc_a (s : State) : Result State := opIncR8 (.reg .a) s

/-- DEC A (R250). -/
def exec_dec_a (s : State) : Result State := opDecR8 (.reg .a) s

/-- CCF (R254). -/
def exec_ccf (s : State) : Result State := opCcf s

/-- ADD A,B (R241). -/
def exec_add_a_b (s : State) : Result State := opAlu .add (.reg .b) s

/-- ADD A,C (R241). -/
def exec_add_a_c (s : State) : Result State := opAlu .add (.reg .c) s

/-- ADD A,D (R241). -/
def exec_add_a_d (s : State) : Result State := opAlu .add (.reg .d) s

/-- ADD A,E (R241). -/
def exec_add_a_e (s : State) : Result State := opAlu .add (.reg .e) s

/-- ADD A,H (R241). -/
def exec_add_a_h (s : State) : Result State := opAlu .add (.reg .h) s

/-- ADD A,L (R241). -/
def exec_add_a_l (s : State) : Result State := opAlu .add (.reg .l) s

/-- ADD A,(HL) (R241). -/
def exec_add_a_atHL (s : State) : Result State := opAlu .add .atHL s

/-- ADD A,A (R241). -/
def exec_add_a_a (s : State) : Result State := opAlu .add (.reg .a) s

/-- ADC A,B (R242). -/
def exec_adc_a_b (s : State) : Result State := opAlu .adc (.reg .b) s

/-- ADC A,C (R242). -/
def exec_adc_a_c (s : State) : Result State := opAlu .adc (.reg .c) s

/-- ADC A,D (R242). -/
def exec_adc_a_d (s : State) : Result State := opAlu .adc (.reg .d) s

/-- ADC A,E (R242). -/
def exec_adc_a_e (s : State) : Result State := opAlu .adc (.reg .e) s

/-- ADC A,H (R242). -/
def exec_adc_a_h (s : State) : Result State := opAlu .adc (.reg .h) s

/-- ADC A,L (R242). -/
def exec_adc_a_l (s : State) : Result State := opAlu .adc (.reg .l) s

/-- ADC A,(HL) (R242). -/
def exec_adc_a_atHL (s : State) : Result State := opAlu .adc .atHL s

/-- ADC A,A (R242). -/
def exec_adc_a_a (s : State) : Result State := opAlu .adc (.reg .a) s

/-- SUB B (R243). -/
def exec_sub_b (s : State) : Result State := opAlu .sub (.reg .b) s

/-- SUB C (R243). -/
def exec_sub_c (s : State) : Result State := opAlu .sub (.reg .c) s

/-- SUB D (R243). -/
def exec_sub_d (s : State) : Result State := opAlu .sub (.reg .d) s

/-- SUB E (R243). -/
def exec_sub_e (s : State) : Result State := opAlu .sub (.reg .e) s

/-- SUB H (R243). -/
def exec_sub_h (s : State) : Result State := opAlu .sub (.reg .h) s

/-- SUB L (R243). -/
def exec_sub_l (s : State) : Result State := opAlu .sub (.reg .l) s

/-- SUB (HL) (R243). -/
def exec_sub_atHL (s : State) : Result State := opAlu .sub .atHL s

/-- SUB A (R243). -/
def exec_sub_a (s : State) : Result State := opAlu .sub (.reg .a) s

/-- SBC A,B (R244). -/
def exec_sbc_a_b (s : State) : Result State := opAlu .sbc (.reg .b) s

/-- SBC A,C (R244). -/
def exec_sbc_a_c (s : State) : Result State := opAlu .sbc (.reg .c) s

/-- SBC A,D (R244). -/
def exec_sbc_a_d (s : State) : Result State := opAlu .sbc (.reg .d) s

/-- SBC A,E (R244). -/
def exec_sbc_a_e (s : State) : Result State := opAlu .sbc (.reg .e) s

/-- SBC A,H (R244). -/
def exec_sbc_a_h (s : State) : Result State := opAlu .sbc (.reg .h) s

/-- SBC A,L (R244). -/
def exec_sbc_a_l (s : State) : Result State := opAlu .sbc (.reg .l) s

/-- SBC A,(HL) (R244). -/
def exec_sbc_a_atHL (s : State) : Result State := opAlu .sbc .atHL s

/-- SBC A,A (R244). -/
def exec_sbc_a_a (s : State) : Result State := opAlu .sbc (.reg .a) s

/-- AND B (R245). -/
def exec_and_b (s : State) : Result State := opAlu .and (.reg .b) s

/-- AND C (R245). -/
def exec_and_c (s : State) : Result State := opAlu .and (.reg .c) s

/-- AND D (R245). -/
def exec_and_d (s : State) : Result State := opAlu .and (.reg .d) s

/-- AND E (R245). -/
def exec_and_e (s : State) : Result State := opAlu .and (.reg .e) s

/-- AND H (R245). -/
def exec_and_h (s : State) : Result State := opAlu .and (.reg .h) s

/-- AND L (R245). -/
def exec_and_l (s : State) : Result State := opAlu .and (.reg .l) s

/-- AND (HL) (R245). -/
def exec_and_atHL (s : State) : Result State := opAlu .and .atHL s

/-- AND A (R245). -/
def exec_and_a (s : State) : Result State := opAlu .and (.reg .a) s

/-- XOR B (R246). -/
def exec_xor_b (s : State) : Result State := opAlu .xor (.reg .b) s

/-- XOR C (R246). -/
def exec_xor_c (s : State) : Result State := opAlu .xor (.reg .c) s

/-- XOR D (R246). -/
def exec_xor_d (s : State) : Result State := opAlu .xor (.reg .d) s

/-- XOR E (R246). -/
def exec_xor_e (s : State) : Result State := opAlu .xor (.reg .e) s

/-- XOR H (R246). -/
def exec_xor_h (s : State) : Result State := opAlu .xor (.reg .h) s

/-- XOR L (R246). -/
def exec_xor_l (s : State) : Result State := opAlu .xor (.reg .l) s

/-- XOR (HL) (R246). -/
def exec_xor_atHL (s : State) : Result State := opAlu .xor .atHL s

/-- XOR A (R246). -/
def exec_xor_a (s : State) : Result State := opAlu .xor (.reg .a) s

/-- OR B (R247). -/
def exec_or_b (s : State) : Result State := opAlu .or (.reg .b) s

/-- OR C (R247). -/
def exec_or_c (s : State) : Result State := opAlu .or (.reg .c) s

/-- OR D (R247). -/
def exec_or_d (s : State) : Result State := opAlu .or (.reg .d) s

/-- OR E (R247). -/
def exec_or_e (s : State) : Result State := opAlu .or (.reg .e) s

/-- OR H (R247). -/
def exec_or_h (s : State) : Result State := opAlu .or (.reg .h) s

/-- OR L (R247). -/
def exec_or_l (s : State) : Result State := opAlu .or (.reg .l) s

/-- OR (HL) (R247). -/
def exec_or_atHL (s : State) : Result State := opAlu .or .atHL s

/-- OR A (R247). -/
def exec_or_a (s : State) : Result State := opAlu .or (.reg .a) s

/-- CP B (R248). -/
def exec_cp_b (s : State) : Result State := opAlu .cp (.reg .b) s

/-- CP C (R248). -/
def exec_cp_c (s : State) : Result State := opAlu .cp (.reg .c) s

/-- CP D (R248). -/
def exec_cp_d (s : State) : Result State := opAlu .cp (.reg .d) s

/-- CP E (R248). -/
def exec_cp_e (s : State) : Result State := opAlu .cp (.reg .e) s

/-- CP H (R248). -/
def exec_cp_h (s : State) : Result State := opAlu .cp (.reg .h) s

/-- CP L (R248). -/
def exec_cp_l (s : State) : Result State := opAlu .cp (.reg .l) s

/-- CP (HL) (R248). -/
def exec_cp_atHL (s : State) : Result State := opAlu .cp .atHL s

/-- CP A (R248). -/
def exec_cp_a (s : State) : Result State := opAlu .cp (.reg .a) s

/-- ADD A,n8 (R241). -/
def exec_add_a_n8 (n : Byte) (s : State) : Result State := opAluImm .add n s

/-- ADC A,n8 (R242). -/
def exec_adc_a_n8 (n : Byte) (s : State) : Result State := opAluImm .adc n s

/-- SUB n8 (R243). -/
def exec_sub_n8 (n : Byte) (s : State) : Result State := opAluImm .sub n s

/-- SBC A,n8 (R244). -/
def exec_sbc_a_n8 (n : Byte) (s : State) : Result State := opAluImm .sbc n s

/-- AND n8 (R245). -/
def exec_and_n8 (n : Byte) (s : State) : Result State := opAluImm .and n s

/-- XOR n8 (R246). -/
def exec_xor_n8 (n : Byte) (s : State) : Result State := opAluImm .xor n s

/-- OR n8 (R247). -/
def exec_or_n8 (n : Byte) (s : State) : Result State := opAluImm .or n s

/-- CP n8 (R248). -/
def exec_cp_n8 (n : Byte) (s : State) : Result State := opAluImm .cp n s

end Sys2Proof.Machine
end

