-- ==== Sys2Proof/Machine/Bits.lean ====
section
/-! DEFINITION. The single-bit test, reset and set (R330 to R332). -/

namespace Sys2Proof.Machine

/-- BIT: nothing is written but the flags (R330). -/
def opBit (n : Oct) (x : R8) (s : State) : Result State :=
  andThen (readR8 x s) fun r =>
  .next (retire 2 (r8Cost x 8 12) (r.2.setFlags (bitFlags n r.1 s.flags)))

/-- RES: for (HL) a read, then a write, which happens even if the bit was 0 (R331). -/
def opRes (n : Oct) (x : R8) (s : State) : Result State :=
  andThen (readR8 x s) fun r =>
  andThen (writeR8 x (resBit n r.1) r.2) fun s2 => .next (retire 2 (r8Cost x 8 16) s2)

/-- SET: for (HL) a read, then a write, which happens even if the bit was 1 (R332). -/
def opSet (n : Oct) (x : R8) (s : State) : Result State :=
  andThen (readR8 x s) fun r =>
  andThen (writeR8 x (setBit n r.1) r.2) fun s2 => .next (retire 2 (r8Cost x 8 16) s2)

/-! ## The instructions -/

/-- BIT 0,B (R330). -/
def exec_bit_0_b (s : State) : Result State := opBit .d0 (.reg .b) s

/-- BIT 0,C (R330). -/
def exec_bit_0_c (s : State) : Result State := opBit .d0 (.reg .c) s

/-- BIT 0,D (R330). -/
def exec_bit_0_d (s : State) : Result State := opBit .d0 (.reg .d) s

/-- BIT 0,E (R330). -/
def exec_bit_0_e (s : State) : Result State := opBit .d0 (.reg .e) s

/-- BIT 0,H (R330). -/
def exec_bit_0_h (s : State) : Result State := opBit .d0 (.reg .h) s

/-- BIT 0,L (R330). -/
def exec_bit_0_l (s : State) : Result State := opBit .d0 (.reg .l) s

/-- BIT 0,(HL) (R330). -/
def exec_bit_0_atHL (s : State) : Result State := opBit .d0 .atHL s

/-- BIT 0,A (R330). -/
def exec_bit_0_a (s : State) : Result State := opBit .d0 (.reg .a) s

/-- BIT 1,B (R330). -/
def exec_bit_1_b (s : State) : Result State := opBit .d1 (.reg .b) s

/-- BIT 1,C (R330). -/
def exec_bit_1_c (s : State) : Result State := opBit .d1 (.reg .c) s

/-- BIT 1,D (R330). -/
def exec_bit_1_d (s : State) : Result State := opBit .d1 (.reg .d) s

/-- BIT 1,E (R330). -/
def exec_bit_1_e (s : State) : Result State := opBit .d1 (.reg .e) s

/-- BIT 1,H (R330). -/
def exec_bit_1_h (s : State) : Result State := opBit .d1 (.reg .h) s

/-- BIT 1,L (R330). -/
def exec_bit_1_l (s : State) : Result State := opBit .d1 (.reg .l) s

/-- BIT 1,(HL) (R330). -/
def exec_bit_1_atHL (s : State) : Result State := opBit .d1 .atHL s

/-- BIT 1,A (R330). -/
def exec_bit_1_a (s : State) : Result State := opBit .d1 (.reg .a) s

/-- BIT 2,B (R330). -/
def exec_bit_2_b (s : State) : Result State := opBit .d2 (.reg .b) s

/-- BIT 2,C (R330). -/
def exec_bit_2_c (s : State) : Result State := opBit .d2 (.reg .c) s

/-- BIT 2,D (R330). -/
def exec_bit_2_d (s : State) : Result State := opBit .d2 (.reg .d) s

/-- BIT 2,E (R330). -/
def exec_bit_2_e (s : State) : Result State := opBit .d2 (.reg .e) s

/-- BIT 2,H (R330). -/
def exec_bit_2_h (s : State) : Result State := opBit .d2 (.reg .h) s

/-- BIT 2,L (R330). -/
def exec_bit_2_l (s : State) : Result State := opBit .d2 (.reg .l) s

/-- BIT 2,(HL) (R330). -/
def exec_bit_2_atHL (s : State) : Result State := opBit .d2 .atHL s

/-- BIT 2,A (R330). -/
def exec_bit_2_a (s : State) : Result State := opBit .d2 (.reg .a) s

/-- BIT 3,B (R330). -/
def exec_bit_3_b (s : State) : Result State := opBit .d3 (.reg .b) s

/-- BIT 3,C (R330). -/
def exec_bit_3_c (s : State) : Result State := opBit .d3 (.reg .c) s

/-- BIT 3,D (R330). -/
def exec_bit_3_d (s : State) : Result State := opBit .d3 (.reg .d) s

/-- BIT 3,E (R330). -/
def exec_bit_3_e (s : State) : Result State := opBit .d3 (.reg .e) s

/-- BIT 3,H (R330). -/
def exec_bit_3_h (s : State) : Result State := opBit .d3 (.reg .h) s

/-- BIT 3,L (R330). -/
def exec_bit_3_l (s : State) : Result State := opBit .d3 (.reg .l) s

/-- BIT 3,(HL) (R330). -/
def exec_bit_3_atHL (s : State) : Result State := opBit .d3 .atHL s

/-- BIT 3,A (R330). -/
def exec_bit_3_a (s : State) : Result State := opBit .d3 (.reg .a) s

/-- BIT 4,B (R330). -/
def exec_bit_4_b (s : State) : Result State := opBit .d4 (.reg .b) s

/-- BIT 4,C (R330). -/
def exec_bit_4_c (s : State) : Result State := opBit .d4 (.reg .c) s

/-- BIT 4,D (R330). -/
def exec_bit_4_d (s : State) : Result State := opBit .d4 (.reg .d) s

/-- BIT 4,E (R330). -/
def exec_bit_4_e (s : State) : Result State := opBit .d4 (.reg .e) s

/-- BIT 4,H (R330). -/
def exec_bit_4_h (s : State) : Result State := opBit .d4 (.reg .h) s

/-- BIT 4,L (R330). -/
def exec_bit_4_l (s : State) : Result State := opBit .d4 (.reg .l) s

/-- BIT 4,(HL) (R330). -/
def exec_bit_4_atHL (s : State) : Result State := opBit .d4 .atHL s

/-- BIT 4,A (R330). -/
def exec_bit_4_a (s : State) : Result State := opBit .d4 (.reg .a) s

/-- BIT 5,B (R330). -/
def exec_bit_5_b (s : State) : Result State := opBit .d5 (.reg .b) s

/-- BIT 5,C (R330). -/
def exec_bit_5_c (s : State) : Result State := opBit .d5 (.reg .c) s

/-- BIT 5,D (R330). -/
def exec_bit_5_d (s : State) : Result State := opBit .d5 (.reg .d) s

/-- BIT 5,E (R330). -/
def exec_bit_5_e (s : State) : Result State := opBit .d5 (.reg .e) s

/-- BIT 5,H (R330). -/
def exec_bit_5_h (s : State) : Result State := opBit .d5 (.reg .h) s

/-- BIT 5,L (R330). -/
def exec_bit_5_l (s : State) : Result State := opBit .d5 (.reg .l) s

/-- BIT 5,(HL) (R330). -/
def exec_bit_5_atHL (s : State) : Result State := opBit .d5 .atHL s

/-- BIT 5,A (R330). -/
def exec_bit_5_a (s : State) : Result State := opBit .d5 (.reg .a) s

/-- BIT 6,B (R330). -/
def exec_bit_6_b (s : State) : Result State := opBit .d6 (.reg .b) s

/-- BIT 6,C (R330). -/
def exec_bit_6_c (s : State) : Result State := opBit .d6 (.reg .c) s

/-- BIT 6,D (R330). -/
def exec_bit_6_d (s : State) : Result State := opBit .d6 (.reg .d) s

/-- BIT 6,E (R330). -/
def exec_bit_6_e (s : State) : Result State := opBit .d6 (.reg .e) s

/-- BIT 6,H (R330). -/
def exec_bit_6_h (s : State) : Result State := opBit .d6 (.reg .h) s

/-- BIT 6,L (R330). -/
def exec_bit_6_l (s : State) : Result State := opBit .d6 (.reg .l) s

/-- BIT 6,(HL) (R330). -/
def exec_bit_6_atHL (s : State) : Result State := opBit .d6 .atHL s

/-- BIT 6,A (R330). -/
def exec_bit_6_a (s : State) : Result State := opBit .d6 (.reg .a) s

/-- BIT 7,B (R330). -/
def exec_bit_7_b (s : State) : Result State := opBit .d7 (.reg .b) s

/-- BIT 7,C (R330). -/
def exec_bit_7_c (s : State) : Result State := opBit .d7 (.reg .c) s

/-- BIT 7,D (R330). -/
def exec_bit_7_d (s : State) : Result State := opBit .d7 (.reg .d) s

/-- BIT 7,E (R330). -/
def exec_bit_7_e (s : State) : Result State := opBit .d7 (.reg .e) s

/-- BIT 7,H (R330). -/
def exec_bit_7_h (s : State) : Result State := opBit .d7 (.reg .h) s

/-- BIT 7,L (R330). -/
def exec_bit_7_l (s : State) : Result State := opBit .d7 (.reg .l) s

/-- BIT 7,(HL) (R330). -/
def exec_bit_7_atHL (s : State) : Result State := opBit .d7 .atHL s

/-- BIT 7,A (R330). -/
def exec_bit_7_a (s : State) : Result State := opBit .d7 (.reg .a) s

/-- RES 0,B (R331). -/
def exec_res_0_b (s : State) : Result State := opRes .d0 (.reg .b) s

/-- RES 0,C (R331). -/
def exec_res_0_c (s : State) : Result State := opRes .d0 (.reg .c) s

/-- RES 0,D (R331). -/
def exec_res_0_d (s : State) : Result State := opRes .d0 (.reg .d) s

/-- RES 0,E (R331). -/
def exec_res_0_e (s : State) : Result State := opRes .d0 (.reg .e) s

/-- RES 0,H (R331). -/
def exec_res_0_h (s : State) : Result State := opRes .d0 (.reg .h) s

/-- RES 0,L (R331). -/
def exec_res_0_l (s : State) : Result State := opRes .d0 (.reg .l) s

/-- RES 0,(HL) (R331). -/
def exec_res_0_atHL (s : State) : Result State := opRes .d0 .atHL s

/-- RES 0,A (R331). -/
def exec_res_0_a (s : State) : Result State := opRes .d0 (.reg .a) s

/-- RES 1,B (R331). -/
def exec_res_1_b (s : State) : Result State := opRes .d1 (.reg .b) s

/-- RES 1,C (R331). -/
def exec_res_1_c (s : State) : Result State := opRes .d1 (.reg .c) s

/-- RES 1,D (R331). -/
def exec_res_1_d (s : State) : Result State := opRes .d1 (.reg .d) s

/-- RES 1,E (R331). -/
def exec_res_1_e (s : State) : Result State := opRes .d1 (.reg .e) s

/-- RES 1,H (R331). -/
def exec_res_1_h (s : State) : Result State := opRes .d1 (.reg .h) s

/-- RES 1,L (R331). -/
def exec_res_1_l (s : State) : Result State := opRes .d1 (.reg .l) s

/-- RES 1,(HL) (R331). -/
def exec_res_1_atHL (s : State) : Result State := opRes .d1 .atHL s

/-- RES 1,A (R331). -/
def exec_res_1_a (s : State) : Result State := opRes .d1 (.reg .a) s

/-- RES 2,B (R331). -/
def exec_res_2_b (s : State) : Result State := opRes .d2 (.reg .b) s

/-- RES 2,C (R331). -/
def exec_res_2_c (s : State) : Result State := opRes .d2 (.reg .c) s

/-- RES 2,D (R331). -/
def exec_res_2_d (s : State) : Result State := opRes .d2 (.reg .d) s

/-- RES 2,E (R331). -/
def exec_res_2_e (s : State) : Result State := opRes .d2 (.reg .e) s

/-- RES 2,H (R331). -/
def exec_res_2_h (s : State) : Result State := opRes .d2 (.reg .h) s

/-- RES 2,L (R331). -/
def exec_res_2_l (s : State) : Result State := opRes .d2 (.reg .l) s

/-- RES 2,(HL) (R331). -/
def exec_res_2_atHL (s : State) : Result State := opRes .d2 .atHL s

/-- RES 2,A (R331). -/
def exec_res_2_a (s : State) : Result State := opRes .d2 (.reg .a) s

/-- RES 3,B (R331). -/
def exec_res_3_b (s : State) : Result State := opRes .d3 (.reg .b) s

/-- RES 3,C (R331). -/
def exec_res_3_c (s : State) : Result State := opRes .d3 (.reg .c) s

/-- RES 3,D (R331). -/
def exec_res_3_d (s : State) : Result State := opRes .d3 (.reg .d) s

/-- RES 3,E (R331). -/
def exec_res_3_e (s : State) : Result State := opRes .d3 (.reg .e) s

/-- RES 3,H (R331). -/
def exec_res_3_h (s : State) : Result State := opRes .d3 (.reg .h) s

/-- RES 3,L (R331). -/
def exec_res_3_l (s : State) : Result State := opRes .d3 (.reg .l) s

/-- RES 3,(HL) (R331). -/
def exec_res_3_atHL (s : State) : Result State := opRes .d3 .atHL s

/-- RES 3,A (R331). -/
def exec_res_3_a (s : State) : Result State := opRes .d3 (.reg .a) s

/-- RES 4,B (R331). -/
def exec_res_4_b (s : State) : Result State := opRes .d4 (.reg .b) s

/-- RES 4,C (R331). -/
def exec_res_4_c (s : State) : Result State := opRes .d4 (.reg .c) s

/-- RES 4,D (R331). -/
def exec_res_4_d (s : State) : Result State := opRes .d4 (.reg .d) s

/-- RES 4,E (R331). -/
def exec_res_4_e (s : State) : Result State := opRes .d4 (.reg .e) s

/-- RES 4,H (R331). -/
def exec_res_4_h (s : State) : Result State := opRes .d4 (.reg .h) s

/-- RES 4,L (R331). -/
def exec_res_4_l (s : State) : Result State := opRes .d4 (.reg .l) s

/-- RES 4,(HL) (R331). -/
def exec_res_4_atHL (s : State) : Result State := opRes .d4 .atHL s

/-- RES 4,A (R331). -/
def exec_res_4_a (s : State) : Result State := opRes .d4 (.reg .a) s

/-- RES 5,B (R331). -/
def exec_res_5_b (s : State) : Result State := opRes .d5 (.reg .b) s

/-- RES 5,C (R331). -/
def exec_res_5_c (s : State) : Result State := opRes .d5 (.reg .c) s

/-- RES 5,D (R331). -/
def exec_res_5_d (s : State) : Result State := opRes .d5 (.reg .d) s

/-- RES 5,E (R331). -/
def exec_res_5_e (s : State) : Result State := opRes .d5 (.reg .e) s

/-- RES 5,H (R331). -/
def exec_res_5_h (s : State) : Result State := opRes .d5 (.reg .h) s

/-- RES 5,L (R331). -/
def exec_res_5_l (s : State) : Result State := opRes .d5 (.reg .l) s

/-- RES 5,(HL) (R331). -/
def exec_res_5_atHL (s : State) : Result State := opRes .d5 .atHL s

/-- RES 5,A (R331). -/
def exec_res_5_a (s : State) : Result State := opRes .d5 (.reg .a) s

/-- RES 6,B (R331). -/
def exec_res_6_b (s : State) : Result State := opRes .d6 (.reg .b) s

/-- RES 6,C (R331). -/
def exec_res_6_c (s : State) : Result State := opRes .d6 (.reg .c) s

/-- RES 6,D (R331). -/
def exec_res_6_d (s : State) : Result State := opRes .d6 (.reg .d) s

/-- RES 6,E (R331). -/
def exec_res_6_e (s : State) : Result State := opRes .d6 (.reg .e) s

/-- RES 6,H (R331). -/
def exec_res_6_h (s : State) : Result State := opRes .d6 (.reg .h) s

/-- RES 6,L (R331). -/
def exec_res_6_l (s : State) : Result State := opRes .d6 (.reg .l) s

/-- RES 6,(HL) (R331). -/
def exec_res_6_atHL (s : State) : Result State := opRes .d6 .atHL s

/-- RES 6,A (R331). -/
def exec_res_6_a (s : State) : Result State := opRes .d6 (.reg .a) s

/-- RES 7,B (R331). -/
def exec_res_7_b (s : State) : Result State := opRes .d7 (.reg .b) s

/-- RES 7,C (R331). -/
def exec_res_7_c (s : State) : Result State := opRes .d7 (.reg .c) s

/-- RES 7,D (R331). -/
def exec_res_7_d (s : State) : Result State := opRes .d7 (.reg .d) s

/-- RES 7,E (R331). -/
def exec_res_7_e (s : State) : Result State := opRes .d7 (.reg .e) s

/-- RES 7,H (R331). -/
def exec_res_7_h (s : State) : Result State := opRes .d7 (.reg .h) s

/-- RES 7,L (R331). -/
def exec_res_7_l (s : State) : Result State := opRes .d7 (.reg .l) s

/-- RES 7,(HL) (R331). -/
def exec_res_7_atHL (s : State) : Result State := opRes .d7 .atHL s

/-- RES 7,A (R331). -/
def exec_res_7_a (s : State) : Result State := opRes .d7 (.reg .a) s

/-- SET 0,B (R332). -/
def exec_set_0_b (s : State) : Result State := opSet .d0 (.reg .b) s

/-- SET 0,C (R332). -/
def exec_set_0_c (s : State) : Result State := opSet .d0 (.reg .c) s

/-- SET 0,D (R332). -/
def exec_set_0_d (s : State) : Result State := opSet .d0 (.reg .d) s

/-- SET 0,E (R332). -/
def exec_set_0_e (s : State) : Result State := opSet .d0 (.reg .e) s

/-- SET 0,H (R332). -/
def exec_set_0_h (s : State) : Result State := opSet .d0 (.reg .h) s

/-- SET 0,L (R332). -/
def exec_set_0_l (s : State) : Result State := opSet .d0 (.reg .l) s

/-- SET 0,(HL) (R332). -/
def exec_set_0_atHL (s : State) : Result State := opSet .d0 .atHL s

/-- SET 0,A (R332). -/
def exec_set_0_a (s : State) : Result State := opSet .d0 (.reg .a) s

/-- SET 1,B (R332). -/
def exec_set_1_b (s : State) : Result State := opSet .d1 (.reg .b) s

/-- SET 1,C (R332). -/
def exec_set_1_c (s : State) : Result State := opSet .d1 (.reg .c) s

/-- SET 1,D (R332). -/
def exec_set_1_d (s : State) : Result State := opSet .d1 (.reg .d) s

/-- SET 1,E (R332). -/
def exec_set_1_e (s : State) : Result State := opSet .d1 (.reg .e) s

/-- SET 1,H (R332). -/
def exec_set_1_h (s : State) : Result State := opSet .d1 (.reg .h) s

/-- SET 1,L (R332). -/
def exec_set_1_l (s : State) : Result State := opSet .d1 (.reg .l) s

/-- SET 1,(HL) (R332). -/
def exec_set_1_atHL (s : State) : Result State := opSet .d1 .atHL s

/-- SET 1,A (R332). -/
def exec_set_1_a (s : State) : Result State := opSet .d1 (.reg .a) s

/-- SET 2,B (R332). -/
def exec_set_2_b (s : State) : Result State := opSet .d2 (.reg .b) s

/-- SET 2,C (R332). -/
def exec_set_2_c (s : State) : Result State := opSet .d2 (.reg .c) s

/-- SET 2,D (R332). -/
def exec_set_2_d (s : State) : Result State := opSet .d2 (.reg .d) s

/-- SET 2,E (R332). -/
def exec_set_2_e (s : State) : Result State := opSet .d2 (.reg .e) s

/-- SET 2,H (R332). -/
def exec_set_2_h (s : State) : Result State := opSet .d2 (.reg .h) s

/-- SET 2,L (R332). -/
def exec_set_2_l (s : State) : Result State := opSet .d2 (.reg .l) s

/-- SET 2,(HL) (R332). -/
def exec_set_2_atHL (s : State) : Result State := opSet .d2 .atHL s

/-- SET 2,A (R332). -/
def exec_set_2_a (s : State) : Result State := opSet .d2 (.reg .a) s

/-- SET 3,B (R332). -/
def exec_set_3_b (s : State) : Result State := opSet .d3 (.reg .b) s

/-- SET 3,C (R332). -/
def exec_set_3_c (s : State) : Result State := opSet .d3 (.reg .c) s

/-- SET 3,D (R332). -/
def exec_set_3_d (s : State) : Result State := opSet .d3 (.reg .d) s

/-- SET 3,E (R332). -/
def exec_set_3_e (s : State) : Result State := opSet .d3 (.reg .e) s

/-- SET 3,H (R332). -/
def exec_set_3_h (s : State) : Result State := opSet .d3 (.reg .h) s

/-- SET 3,L (R332). -/
def exec_set_3_l (s : State) : Result State := opSet .d3 (.reg .l) s

/-- SET 3,(HL) (R332). -/
def exec_set_3_atHL (s : State) : Result State := opSet .d3 .atHL s

/-- SET 3,A (R332). -/
def exec_set_3_a (s : State) : Result State := opSet .d3 (.reg .a) s

/-- SET 4,B (R332). -/
def exec_set_4_b (s : State) : Result State := opSet .d4 (.reg .b) s

/-- SET 4,C (R332). -/
def exec_set_4_c (s : State) : Result State := opSet .d4 (.reg .c) s

/-- SET 4,D (R332). -/
def exec_set_4_d (s : State) : Result State := opSet .d4 (.reg .d) s

/-- SET 4,E (R332). -/
def exec_set_4_e (s : State) : Result State := opSet .d4 (.reg .e) s

/-- SET 4,H (R332). -/
def exec_set_4_h (s : State) : Result State := opSet .d4 (.reg .h) s

/-- SET 4,L (R332). -/
def exec_set_4_l (s : State) : Result State := opSet .d4 (.reg .l) s

/-- SET 4,(HL) (R332). -/
def exec_set_4_atHL (s : State) : Result State := opSet .d4 .atHL s

/-- SET 4,A (R332). -/
def exec_set_4_a (s : State) : Result State := opSet .d4 (.reg .a) s

/-- SET 5,B (R332). -/
def exec_set_5_b (s : State) : Result State := opSet .d5 (.reg .b) s

/-- SET 5,C (R332). -/
def exec_set_5_c (s : State) : Result State := opSet .d5 (.reg .c) s

/-- SET 5,D (R332). -/
def exec_set_5_d (s : State) : Result State := opSet .d5 (.reg .d) s

/-- SET 5,E (R332). -/
def exec_set_5_e (s : State) : Result State := opSet .d5 (.reg .e) s

/-- SET 5,H (R332). -/
def exec_set_5_h (s : State) : Result State := opSet .d5 (.reg .h) s

/-- SET 5,L (R332). -/
def exec_set_5_l (s : State) : Result State := opSet .d5 (.reg .l) s

/-- SET 5,(HL) (R332). -/
def exec_set_5_atHL (s : State) : Result State := opSet .d5 .atHL s

/-- SET 5,A (R332). -/
def exec_set_5_a (s : State) : Result State := opSet .d5 (.reg .a) s

/-- SET 6,B (R332). -/
def exec_set_6_b (s : State) : Result State := opSet .d6 (.reg .b) s

/-- SET 6,C (R332). -/
def exec_set_6_c (s : State) : Result State := opSet .d6 (.reg .c) s

/-- SET 6,D (R332). -/
def exec_set_6_d (s : State) : Result State := opSet .d6 (.reg .d) s

/-- SET 6,E (R332). -/
def exec_set_6_e (s : State) : Result State := opSet .d6 (.reg .e) s

/-- SET 6,H (R332). -/
def exec_set_6_h (s : State) : Result State := opSet .d6 (.reg .h) s

/-- SET 6,L (R332). -/
def exec_set_6_l (s : State) : Result State := opSet .d6 (.reg .l) s

/-- SET 6,(HL) (R332). -/
def exec_set_6_atHL (s : State) : Result State := opSet .d6 .atHL s

/-- SET 6,A (R332). -/
def exec_set_6_a (s : State) : Result State := opSet .d6 (.reg .a) s

/-- SET 7,B (R332). -/
def exec_set_7_b (s : State) : Result State := opSet .d7 (.reg .b) s

/-- SET 7,C (R332). -/
def exec_set_7_c (s : State) : Result State := opSet .d7 (.reg .c) s

/-- SET 7,D (R332). -/
def exec_set_7_d (s : State) : Result State := opSet .d7 (.reg .d) s

/-- SET 7,E (R332). -/
def exec_set_7_e (s : State) : Result State := opSet .d7 (.reg .e) s

/-- SET 7,H (R332). -/
def exec_set_7_h (s : State) : Result State := opSet .d7 (.reg .h) s

/-- SET 7,L (R332). -/
def exec_set_7_l (s : State) : Result State := opSet .d7 (.reg .l) s

/-- SET 7,(HL) (R332). -/
def exec_set_7_atHL (s : State) : Result State := opSet .d7 .atHL s

/-- SET 7,A (R332). -/
def exec_set_7_a (s : State) : Result State := opSet .d7 (.reg .a) s

end Sys2Proof.Machine
end

