-- ==== Sys2Proof/Machine/Control.lean ====
section
/-! DEFINITION. The control transfers (R350 to R361). -/

namespace Sys2Proof.Machine

/-- Jump if the condition holds; otherwise end with PC = pc_next and the cost of a transfer not taken (R350). -/
def jumpIf (taken : Bool) (target : Word) (len : Word) (costTaken costNot : Count) (s : State) : Result State :=
  if taken then .next (jumpTo target costTaken s) else .next (retire len costNot s)

/-- `SP <- SP - 2; MemWrite(SP, 2, pc_next); PC <- target` (R356, R358). -/
def callTo (target : Word) (len : Word) (cost : Count) (s : State) : Result State :=
  andThen (pushWord (s.pc + len) s) fun s1 => .next (jumpTo target cost s1)

/-- `PC <- MemRead(SP, 2); SP <- SP + 2` (R359). -/
def returnTo (cost : Count) (s : State) : Result State :=
  andThen (popWord s) fun r => .next (jumpTo r.1 cost r.2)

/-- R351. -/
def opJp (a : Word) (s : State) : Result State := .next (jumpTo a 16 s)

/-- R352. -/
def opJpCc (cc : Cond) (a : Word) (s : State) : Result State := jumpIf (condHolds cc s.flags) a 3 16 12 s

/-- R353: HL is the target; memory at HL is not read. -/
def opJpHl (s : State) : Result State := .next (jumpTo s.hl 4 s)

/-- R354. -/
def opJr (e : Byte) (s : State) : Result State := .next (jumpTo (jrTarget s.pc e) 12 s)

/-- R355. -/
def opJrCc (cc : Cond) (e : Byte) (s : State) : Result State :=
  jumpIf (condHolds cc s.flags) (jrTarget s.pc e) 2 12 8 s

/-- R356. -/
def opCall (a : Word) (s : State) : Result State := callTo a 3 24 s

/-- R357: not taken, it neither writes memory nor changes SP. -/
def opCallCc (cc : Cond) (a : Word) (s : State) : Result State :=
  if condHolds cc s.flags then callTo a 3 24 s else .next (retire 3 12 s)

/-- R358: an ordinary call; neither IME nor the run state changes. -/
def opRst (t : Oct) (s : State) : Result State := callTo (rstTarget t) 1 16 s

/-- R359. -/
def opRet (s : State) : Result State := returnTo 16 s

/-- R360: not taken, it reads no memory. -/
def opRetCc (cc : Cond) (s : State) : Result State :=
  if condHolds cc s.flags then returnTo 20 s else .next (retire 1 8 s)

/-- R361. -/
def opReti (s : State) : Result State := returnFromInterrupt 16 s

/-! ## The instructions -/

/-- JR e8 (R354). -/
def exec_jr_e8 (e : Byte) (s : State) : Result State := opJr e s

/-- JR NZ,e8 (R355). -/
def exec_jr_nz_e8 (e : Byte) (s : State) : Result State := opJrCc .nz e s

/-- JR Z,e8 (R355). -/
def exec_jr_z_e8 (e : Byte) (s : State) : Result State := opJrCc .z e s

/-- JR NC,e8 (R355). -/
def exec_jr_nc_e8 (e : Byte) (s : State) : Result State := opJrCc .nc e s

/-- JR C,e8 (R355). -/
def exec_jr_c_e8 (e : Byte) (s : State) : Result State := opJrCc .c e s

/-- RET NZ (R360). -/
def exec_ret_nz (s : State) : Result State := opRetCc .nz s

/-- JP NZ,a16 (R352). -/
def exec_jp_nz_a16 (a : Word) (s : State) : Result State := opJpCc .nz a s

/-- JP a16 (R351). -/
def exec_jp_a16 (a : Word) (s : State) : Result State := opJp a s

/-- CALL NZ,a16 (R357). -/
def exec_call_nz_a16 (a : Word) (s : State) : Result State := opCallCc .nz a s

/-- RST 0x00 (R358). -/
def exec_rst_00 (s : State) : Result State := opRst .d0 s

/-- RET Z (R360). -/
def exec_ret_z (s : State) : Result State := opRetCc .z s

/-- RET (R359). -/
def exec_ret (s : State) : Result State := opRet s

/-- JP Z,a16 (R352). -/
def exec_jp_z_a16 (a : Word) (s : State) : Result State := opJpCc .z a s

/-- CALL Z,a16 (R357). -/
def exec_call_z_a16 (a : Word) (s : State) : Result State := opCallCc .z a s

/-- CALL a16 (R356). -/
def exec_call_a16 (a : Word) (s : State) : Result State := opCall a s

/-- RST 0x08 (R358). -/
def exec_rst_08 (s : State) : Result State := opRst .d1 s

/-- RET NC (R360). -/
def exec_ret_nc (s : State) : Result State := opRetCc .nc s

/-- JP NC,a16 (R352). -/
def exec_jp_nc_a16 (a : Word) (s : State) : Result State := opJpCc .nc a s

/-- CALL NC,a16 (R357). -/
def exec_call_nc_a16 (a : Word) (s : State) : Result State := opCallCc .nc a s

/-- RST 0x10 (R358). -/
def exec_rst_10 (s : State) : Result State := opRst .d2 s

/-- RET C (R360). -/
def exec_ret_c (s : State) : Result State := opRetCc .c s

/-- RETI (R361). -/
def exec_reti (s : State) : Result State := opReti s

/-- JP C,a16 (R352). -/
def exec_jp_c_a16 (a : Word) (s : State) : Result State := opJpCc .c a s

/-- CALL C,a16 (R357). -/
def exec_call_c_a16 (a : Word) (s : State) : Result State := opCallCc .c a s

/-- RST 0x18 (R358). -/
def exec_rst_18 (s : State) : Result State := opRst .d3 s

/-- RST 0x20 (R358). -/
def exec_rst_20 (s : State) : Result State := opRst .d4 s

/-- JP HL (R353). -/
def exec_jp_hl (s : State) : Result State := opJpHl s

/-- RST 0x28 (R358). -/
def exec_rst_28 (s : State) : Result State := opRst .d5 s

/-- RST 0x30 (R358). -/
def exec_rst_30 (s : State) : Result State := opRst .d6 s

/-- RST 0x38 (R358). -/
def exec_rst_38 (s : State) : Result State := opRst .d7 s

end Sys2Proof.Machine
end

