-- ==== Sys2Proof/Machine/Cpu.lean ====
section
/-! DEFINITION. CPU control (R380 to R384). The eleven undefined opcodes of R385 have no row and no constructor:
their fetch raises InvalidOpcode (Machine/Fetch.lean). -/

namespace Sys2Proof.Machine

/-- R380. -/
def opNop (s : State) : Result State := .next (retire 1 4 s)

/-- `run <- Halted`, always: the HALT bug is not modelled (R381, R463). -/
def opHalt (s : State) : Result State := .next (retire 1 4 { s with run := .halted })

/-- `run <- Stopped`: the second byte is fetched and ignored (R382). -/
def opStop (_ : Byte) (s : State) : Result State :=
  .next (retire 2 4 { s with run := .stopped })

/-- `ime <- 0; ime_pending <- 0` at once (R383). -/
def opDi (s : State) : Result State := .next (retire 1 4 { s with ime := false, imePending := false })

/-- `ime_pending <- 1`; IME itself is not written (R384). -/
def opEi (s : State) : Result State := .next (retire 1 4 { s with imePending := true })

/-! ## The instructions -/

/-- NOP (R380). -/
def exec_nop (s : State) : Result State := opNop s

/-- STOP (R382). -/
def exec_stop (n : Byte) (s : State) : Result State := opStop n s

/-- HALT (R381). -/
def exec_halt (s : State) : Result State := opHalt s

/-- DI (R383). -/
def exec_di (s : State) : Result State := opDi s

/-- EI (R384). -/
def exec_ei (s : State) : Result State := opEi s

end Sys2Proof.Machine
end

