-- ==== Sys2Proof/Machine/Loads16.lean ====
section
/-! DEFINITION. The 16-bit loads and the stack operations (R210 to R216). -/

namespace Sys2Proof.Machine

/-- `rr <- n16` (R210). -/
def opLdPairImm (p : Pair) (n : Word) (s : State) : Result State := .next (retire 3 12 (s.setPair p n))

/-- `MemWrite(a16, 2, SP)` (R211). -/
def opLdAbsSp (a : Word) (s : State) : Result State :=
  andThen (writeWord a s.sp s) fun s1 => .next (retire 3 20 s1)

/-- `SP <- HL` (R212). -/
def opLdSpHl (s : State) : Result State := .next (retire 1 8 (s.setPair .sp s.hl))

/-- `HL <- SP + sext_16(e8)`, with the flags of the low-byte addition (R213). -/
def opLdHlSp (e : Byte) (s : State) : Result State :=
  .next (retire 2 12 ((s.setPair .hl (addSpDisp s.sp e).1).setFlags (addSpDisp s.sp e).2))

/-- PUSH rr (R214). -/
def opPush (p : StackPair) (s : State) : Result State :=
  andThen (pushWord (s.stackPair p) s) fun s1 => .next (retire 1 16 s1)

/-- POP rr and POP AF (R215, R216). -/
def opPop (p : StackPair) (s : State) : Result State :=
  andThen (popWord s) fun r => .next (retire 1 12 (r.2.setStackPair p r.1))

/-! ## The instructions -/

/-- LD BC,n16 (R210). -/
def exec_ld_bc_n16 (n : Word) (s : State) : Result State := opLdPairImm .bc n s

/-- LD (a16),SP (R211). -/
def exec_ld_atA16_sp (a : Word) (s : State) : Result State := opLdAbsSp a s

/-- LD DE,n16 (R210). -/
def exec_ld_de_n16 (n : Word) (s : State) : Result State := opLdPairImm .de n s

/-- LD HL,n16 (R210). -/
def exec_ld_hl_n16 (n : Word) (s : State) : Result State := opLdPairImm .hl n s

/-- LD SP,n16 (R210). -/
def exec_ld_sp_n16 (n : Word) (s : State) : Result State := opLdPairImm .sp n s

/-- POP BC (R215). -/
def exec_pop_bc (s : State) : Result State := opPop .bc s

/-- PUSH BC (R214). -/
def exec_push_bc (s : State) : Result State := opPush .bc s

/-- POP DE (R215). -/
def exec_pop_de (s : State) : Result State := opPop .de s

/-- PUSH DE (R214). -/
def exec_push_de (s : State) : Result State := opPush .de s

/-- POP HL (R215). -/
def exec_pop_hl (s : State) : Result State := opPop .hl s

/-- PUSH HL (R214). -/
def exec_push_hl (s : State) : Result State := opPush .hl s

/-- POP AF (R216). -/
def exec_pop_af (s : State) : Result State := opPop .af s

/-- PUSH AF (R214). -/
def exec_push_af (s : State) : Result State := opPush .af s

/-- LD HL,SP+e8 (R213). -/
def exec_ld_hl_sp_e8 (e : Byte) (s : State) : Result State := opLdHlSp e s

/-- LD SP,HL (R212). -/
def exec_ld_sp_hl (s : State) : Result State := opLdSpHl s

end Sys2Proof.Machine
end

