-- ==== Sys2Proof/Machine/Loads8.lean ====
section
/-! DEFINITION. The 8-bit loads and stores (R180 to R196). No rule of this file changes a flag. -/

namespace Sys2Proof.Machine

/-- `d <- s` (R180). -/
def opLdRegReg (rd rs : Reg) (s : State) : Result State := .next (retire 1 4 (s.setReg rd (s.reg rs)))

/-- `A <- MemRead(addr, 1)`, or another register: the load of R181, R185, R191, R193 and R195. -/
def loadReg (rd : Reg) (addr : Word) (len : Word) (cost : Count) (s : State) : Result State :=
  andThen (readByte addr s) fun r => .next (retire len cost (r.2.setReg rd r.1))

/-- `MemWrite(addr, 1, v)`: the store of R182, R184, R186, R192, R194 and R196. -/
def storeByte (addr : Word) (v : Byte) (len : Word) (cost : Count) (s : State) : Result State :=
  andThen (writeByte addr v s) fun s1 => .next (retire len cost s1)

/-- `d <- MemRead(HL, 1)` at the old HL (R181). -/
def opLdRegMem (rd : Reg) (s : State) : Result State := loadReg rd s.hl 1 8 s

/-- `MemWrite(HL, 1, s)` (R182). -/
def opLdMemReg (rs : Reg) (s : State) : Result State := storeByte s.hl (s.reg rs) 1 8 s

/-- `d <- n8` (R183). -/
def opLdRegImm (rd : Reg) (n : Byte) (s : State) : Result State := .next (retire 2 8 (s.setReg rd n))

/-- `MemWrite(HL, 1, n8)` (R184). -/
def opLdMemImm (n : Byte) (s : State) : Result State := storeByte s.hl n 2 12 s

/-- `A <- MemRead(rr, 1)` (R185). -/
def opLdAPtr (p : Ptr) (s : State) : Result State := loadReg .a (s.ptr p) 1 8 s

/-- `MemWrite(rr, 1, A)` (R186). -/
def opLdPtrA (p : Ptr) (s : State) : Result State := storeByte (s.ptr p) s.a 1 8 s

/-- `addr <- HL; A <- MemRead(addr, 1); HL <- addr + step` (R187, R188). -/
def loadAStep (step : Word) (s : State) : Result State :=
  andThen (readByte s.hl s) fun r =>
  .next (retire 1 8 ((r.2.setReg .a r.1).setPair .hl (s.hl + step)))

/-- `addr <- HL; MemWrite(addr, 1, A); HL <- addr + step` (R189, R190). -/
def storeAStep (step : Word) (s : State) : Result State :=
  andThen (writeByte s.hl s.a s) fun s1 => .next (retire 1 8 (s1.setPair .hl (s.hl + step)))

/-- R187. -/
def opLdAHli (s : State) : Result State := loadAStep 1 s

/-- R188: minus one, modulo 2^16. -/
def opLdAHld (s : State) : Result State := loadAStep 0xFFFF s

/-- R189. -/
def opLdHliA (s : State) : Result State := storeAStep 1 s

/-- R190: minus one, modulo 2^16. -/
def opLdHldA (s : State) : Result State := storeAStep 0xFFFF s

/-- `A <- MemRead(a16, 1)` (R191). -/
def opLdAAbs (a : Word) (s : State) : Result State := loadReg .a a 3 16 s

/-- `MemWrite(a16, 1, A)` (R192). -/
def opLdAbsA (a : Word) (s : State) : Result State := storeByte a s.a 3 16 s

/-- R193. -/
def opLdhAImm (n : Byte) (s : State) : Result State := loadReg .a (highPage n) 2 12 s

/-- R194. -/
def opLdhImmA (n : Byte) (s : State) : Result State := storeByte (highPage n) s.a 2 12 s

/-- R195: length 1. -/
def opLdhAC (s : State) : Result State := loadReg .a (highPage s.c) 1 8 s

/-- R196: length 1. -/
def opLdhCA (s : State) : Result State := storeByte (highPage s.c) s.a 1 8 s

/-! ## The instructions -/

/-- LD (BC),A (R186). -/
def exec_ld_atBC_a (s : State) : Result State := opLdPtrA .bc s

/-- LD B,n8 (R183). -/
def exec_ld_b_n8 (n : Byte) (s : State) : Result State := opLdRegImm .b n s

/-- LD A,(BC) (R185). -/
def exec_ld_a_atBC (s : State) : Result State := opLdAPtr .bc s

/-- LD C,n8 (R183). -/
def exec_ld_c_n8 (n : Byte) (s : State) : Result State := opLdRegImm .c n s

/-- LD (DE),A (R186). -/
def exec_ld_atDE_a (s : State) : Result State := opLdPtrA .de s

/-- LD D,n8 (R183). -/
def exec_ld_d_n8 (n : Byte) (s : State) : Result State := opLdRegImm .d n s

/-- LD A,(DE) (R185). -/
def exec_ld_a_atDE (s : State) : Result State := opLdAPtr .de s

/-- LD E,n8 (R183). -/
def exec_ld_e_n8 (n : Byte) (s : State) : Result State := opLdRegImm .e n s

/-- LD (HL+),A (R189). -/
def exec_ld_atHLI_a (s : State) : Result State := opLdHliA s

/-- LD H,n8 (R183). -/
def exec_ld_h_n8 (n : Byte) (s : State) : Result State := opLdRegImm .h n s

/-- LD A,(HL+) (R187). -/
def exec_ld_a_atHLI (s : State) : Result State := opLdAHli s

/-- LD L,n8 (R183). -/
def exec_ld_l_n8 (n : Byte) (s : State) : Result State := opLdRegImm .l n s

/-- LD (HL-),A (R190). -/
def exec_ld_atHLD_a (s : State) : Result State := opLdHldA s

/-- LD (HL),n8 (R184). -/
def exec_ld_atHL_n8 (n : Byte) (s : State) : Result State := opLdMemImm n s

/-- LD A,(HL-) (R188). -/
def exec_ld_a_atHLD (s : State) : Result State := opLdAHld s

/-- LD A,n8 (R183). -/
def exec_ld_a_n8 (n : Byte) (s : State) : Result State := opLdRegImm .a n s

/-- LD B,B (R180). -/
def exec_ld_b_b (s : State) : Result State := opLdRegReg .b .b s

/-- LD B,C (R180). -/
def exec_ld_b_c (s : State) : Result State := opLdRegReg .b .c s

/-- LD B,D (R180). -/
def exec_ld_b_d (s : State) : Result State := opLdRegReg .b .d s

/-- LD B,E (R180). -/
def exec_ld_b_e (s : State) : Result State := opLdRegReg .b .e s

/-- LD B,H (R180). -/
def exec_ld_b_h (s : State) : Result State := opLdRegReg .b .h s

/-- LD B,L (R180). -/
def exec_ld_b_l (s : State) : Result State := opLdRegReg .b .l s

/-- LD B,(HL) (R181). -/
def exec_ld_b_atHL (s : State) : Result State := opLdRegMem .b s

/-- LD B,A (R180). -/
def exec_ld_b_a (s : State) : Result State := opLdRegReg .b .a s

/-- LD C,B (R180). -/
def exec_ld_c_b (s : State) : Result State := opLdRegReg .c .b s

/-- LD C,C (R180). -/
def exec_ld_c_c (s : State) : Result State := opLdRegReg .c .c s

/-- LD C,D (R180). -/
def exec_ld_c_d (s : State) : Result State := opLdRegReg .c .d s

/-- LD C,E (R180). -/
def exec_ld_c_e (s : State) : Result State := opLdRegReg .c .e s

/-- LD C,H (R180). -/
def exec_ld_c_h (s : State) : Result State := opLdRegReg .c .h s

/-- LD C,L (R180). -/
def exec_ld_c_l (s : State) : Result State := opLdRegReg .c .l s

/-- LD C,(HL) (R181). -/
def exec_ld_c_atHL (s : State) : Result State := opLdRegMem .c s

/-- LD C,A (R180). -/
def exec_ld_c_a (s : State) : Result State := opLdRegReg .c .a s

/-- LD D,B (R180). -/
def exec_ld_d_b (s : State) : Result State := opLdRegReg .d .b s

/-- LD D,C (R180). -/
def exec_ld_d_c (s : State) : Result State := opLdRegReg .d .c s

/-- LD D,D (R180). -/
def exec_ld_d_d (s : State) : Result State := opLdRegReg .d .d s

/-- LD D,E (R180). -/
def exec_ld_d_e (s : State) : Result State := opLdRegReg .d .e s

/-- LD D,H (R180). -/
def exec_ld_d_h (s : State) : Result State := opLdRegReg .d .h s

/-- LD D,L (R180). -/
def exec_ld_d_l (s : State) : Result State := opLdRegReg .d .l s

/-- LD D,(HL) (R181). -/
def exec_ld_d_atHL (s : State) : Result State := opLdRegMem .d s

/-- LD D,A (R180). -/
def exec_ld_d_a (s : State) : Result State := opLdRegReg .d .a s

/-- LD E,B (R180). -/
def exec_ld_e_b (s : State) : Result State := opLdRegReg .e .b s

/-- LD E,C (R180). -/
def exec_ld_e_c (s : State) : Result State := opLdRegReg .e .c s

/-- LD E,D (R180). -/
def exec_ld_e_d (s : State) : Result State := opLdRegReg .e .d s

/-- LD E,E (R180). -/
def exec_ld_e_e (s : State) : Result State := opLdRegReg .e .e s

/-- LD E,H (R180). -/
def exec_ld_e_h (s : State) : Result State := opLdRegReg .e .h s

/-- LD E,L (R180). -/
def exec_ld_e_l (s : State) : Result State := opLdRegReg .e .l s

/-- LD E,(HL) (R181). -/
def exec_ld_e_atHL (s : State) : Result State := opLdRegMem .e s

/-- LD E,A (R180). -/
def exec_ld_e_a (s : State) : Result State := opLdRegReg .e .a s

/-- LD H,B (R180). -/
def exec_ld_h_b (s : State) : Result State := opLdRegReg .h .b s

/-- LD H,C (R180). -/
def exec_ld_h_c (s : State) : Result State := opLdRegReg .h .c s

/-- LD H,D (R180). -/
def exec_ld_h_d (s : State) : Result State := opLdRegReg .h .d s

/-- LD H,E (R180). -/
def exec_ld_h_e (s : State) : Result State := opLdRegReg .h .e s

/-- LD H,H (R180). -/
def exec_ld_h_h (s : State) : Result State := opLdRegReg .h .h s

/-- LD H,L (R180). -/
def exec_ld_h_l (s : State) : Result State := opLdRegReg .h .l s

/-- LD H,(HL) (R181). -/
def exec_ld_h_atHL (s : State) : Result State := opLdRegMem .h s

/-- LD H,A (R180). -/
def exec_ld_h_a (s : State) : Result State := opLdRegReg .h .a s

/-- LD L,B (R180). -/
def exec_ld_l_b (s : State) : Result State := opLdRegReg .l .b s

/-- LD L,C (R180). -/
def exec_ld_l_c (s : State) : Result State := opLdRegReg .l .c s

/-- LD L,D (R180). -/
def exec_ld_l_d (s : State) : Result State := opLdRegReg .l .d s

/-- LD L,E (R180). -/
def exec_ld_l_e (s : State) : Result State := opLdRegReg .l .e s

/-- LD L,H (R180). -/
def exec_ld_l_h (s : State) : Result State := opLdRegReg .l .h s

/-- LD L,L (R180). -/
def exec_ld_l_l (s : State) : Result State := opLdRegReg .l .l s

/-- LD L,(HL) (R181). -/
def exec_ld_l_atHL (s : State) : Result State := opLdRegMem .l s

/-- LD L,A (R180). -/
def exec_ld_l_a (s : State) : Result State := opLdRegReg .l .a s

/-- LD (HL),B (R182). -/
def exec_ld_atHL_b (s : State) : Result State := opLdMemReg .b s

/-- LD (HL),C (R182). -/
def exec_ld_atHL_c (s : State) : Result State := opLdMemReg .c s

/-- LD (HL),D (R182). -/
def exec_ld_atHL_d (s : State) : Result State := opLdMemReg .d s

/-- LD (HL),E (R182). -/
def exec_ld_atHL_e (s : State) : Result State := opLdMemReg .e s

/-- LD (HL),H (R182). -/
def exec_ld_atHL_h (s : State) : Result State := opLdMemReg .h s

/-- LD (HL),L (R182). -/
def exec_ld_atHL_l (s : State) : Result State := opLdMemReg .l s

/-- LD (HL),A (R182). -/
def exec_ld_atHL_a (s : State) : Result State := opLdMemReg .a s

/-- LD A,B (R180). -/
def exec_ld_a_b (s : State) : Result State := opLdRegReg .a .b s

/-- LD A,C (R180). -/
def exec_ld_a_c (s : State) : Result State := opLdRegReg .a .c s

/-- LD A,D (R180). -/
def exec_ld_a_d (s : State) : Result State := opLdRegReg .a .d s

/-- LD A,E (R180). -/
def exec_ld_a_e (s : State) : Result State := opLdRegReg .a .e s

/-- LD A,H (R180). -/
def exec_ld_a_h (s : State) : Result State := opLdRegReg .a .h s

/-- LD A,L (R180). -/
def exec_ld_a_l (s : State) : Result State := opLdRegReg .a .l s

/-- LD A,(HL) (R181). -/
def exec_ld_a_atHL (s : State) : Result State := opLdRegMem .a s

/-- LD A,A (R180). -/
def exec_ld_a_a (s : State) : Result State := opLdRegReg .a .a s

/-- LDH (a8),A (R194). -/
def exec_ldh_atA8_a (n : Byte) (s : State) : Result State := opLdhImmA n s

/-- LD (C),A (R196). -/
def exec_ld_atC_a (s : State) : Result State := opLdhCA s

/-- LD (a16),A (R192). -/
def exec_ld_atA16_a (a : Word) (s : State) : Result State := opLdAbsA a s

/-- LDH A,(a8) (R193). -/
def exec_ldh_a_atA8 (n : Byte) (s : State) : Result State := opLdhAImm n s

/-- LD A,(C) (R195). -/
def exec_ld_a_atC (s : State) : Result State := opLdhAC s

/-- LD A,(a16) (R191). -/
def exec_ld_a_atA16 (a : Word) (s : State) : Result State := opLdAAbs a s

end Sys2Proof.Machine
end

