-- ==== Sys2Proof/Machine/Rotate.lean ====
section
/-! DEFINITION. The rotates, shifts and SWAP (R300 to R312). -/

namespace Sys2Proof.Machine

/-- An accumulator rotate: length 1, 4 cycles, Z = 0 (R300 to R303). -/
def rotateAcc (op : RotOp) (s : State) : Result State :=
  .next (retire 1 4 ((s.setReg .a (rotResult op s.a s.flags.c).1).setFlags
    (rotAccFlags (rotResult op s.a s.flags.c))))

/-- R300. -/
def opRlca (s : State) : Result State := rotateAcc .rlc s

/-- R301. -/
def opRrca (s : State) : Result State := rotateAcc .rrc s

/-- R302. -/
def opRla (s : State) : Result State := rotateAcc .rl s

/-- R303. -/
def opRra (s : State) : Result State := rotateAcc .rr s

/-- A CB rotate, shift or SWAP: for (HL) one read, then one write, which happens even when the value is unchanged
(R304 to R312). -/
def opRot (op : RotOp) (x : R8) (s : State) : Result State :=
  andThen (readR8 x s) fun r =>
  andThen (writeR8 x (rotResult op r.1 s.flags.c).1 r.2) fun s2 =>
  .next (retire 2 (r8Cost x 8 16) (s2.setFlags (rotCbFlags (rotResult op r.1 s.flags.c))))

/-! ## The instructions -/

/-- RLCA (R300). -/
def exec_rlca (s : State) : Result State := opRlca s

/-- RRCA (R301). -/
def exec_rrca (s : State) : Result State := opRrca s

/-- RLA (R302). -/
def exec_rla (s : State) : Result State := opRla s

/-- RRA (R303). -/
def exec_rra (s : State) : Result State := opRra s

/-- RLC B (R305). -/
def exec_rlc_b (s : State) : Result State := opRot .rlc (.reg .b) s

/-- RLC C (R305). -/
def exec_rlc_c (s : State) : Result State := opRot .rlc (.reg .c) s

/-- RLC D (R305). -/
def exec_rlc_d (s : State) : Result State := opRot .rlc (.reg .d) s

/-- RLC E (R305). -/
def exec_rlc_e (s : State) : Result State := opRot .rlc (.reg .e) s

/-- RLC H (R305). -/
def exec_rlc_h (s : State) : Result State := opRot .rlc (.reg .h) s

/-- RLC L (R305). -/
def exec_rlc_l (s : State) : Result State := opRot .rlc (.reg .l) s

/-- RLC (HL) (R305). -/
def exec_rlc_atHL (s : State) : Result State := opRot .rlc .atHL s

/-- RLC A (R305). -/
def exec_rlc_a (s : State) : Result State := opRot .rlc (.reg .a) s

/-- RRC B (R306). -/
def exec_rrc_b (s : State) : Result State := opRot .rrc (.reg .b) s

/-- RRC C (R306). -/
def exec_rrc_c (s : State) : Result State := opRot .rrc (.reg .c) s

/-- RRC D (R306). -/
def exec_rrc_d (s : State) : Result State := opRot .rrc (.reg .d) s

/-- RRC E (R306). -/
def exec_rrc_e (s : State) : Result State := opRot .rrc (.reg .e) s

/-- RRC H (R306). -/
def exec_rrc_h (s : State) : Result State := opRot .rrc (.reg .h) s

/-- RRC L (R306). -/
def exec_rrc_l (s : State) : Result State := opRot .rrc (.reg .l) s

/-- RRC (HL) (R306). -/
def exec_rrc_atHL (s : State) : Result State := opRot .rrc .atHL s

/-- RRC A (R306). -/
def exec_rrc_a (s : State) : Result State := opRot .rrc (.reg .a) s

/-- RL B (R307). -/
def exec_rl_b (s : State) : Result State := opRot .rl (.reg .b) s

/-- RL C (R307). -/
def exec_rl_c (s : State) : Result State := opRot .rl (.reg .c) s

/-- RL D (R307). -/
def exec_rl_d (s : State) : Result State := opRot .rl (.reg .d) s

/-- RL E (R307). -/
def exec_rl_e (s : State) : Result State := opRot .rl (.reg .e) s

/-- RL H (R307). -/
def exec_rl_h (s : State) : Result State := opRot .rl (.reg .h) s

/-- RL L (R307). -/
def exec_rl_l (s : State) : Result State := opRot .rl (.reg .l) s

/-- RL (HL) (R307). -/
def exec_rl_atHL (s : State) : Result State := opRot .rl .atHL s

/-- RL A (R307). -/
def exec_rl_a (s : State) : Result State := opRot .rl (.reg .a) s

/-- RR B (R308). -/
def exec_rr_b (s : State) : Result State := opRot .rr (.reg .b) s

/-- RR C (R308). -/
def exec_rr_c (s : State) : Result State := opRot .rr (.reg .c) s

/-- RR D (R308). -/
def exec_rr_d (s : State) : Result State := opRot .rr (.reg .d) s

/-- RR E (R308). -/
def exec_rr_e (s : State) : Result State := opRot .rr (.reg .e) s

/-- RR H (R308). -/
def exec_rr_h (s : State) : Result State := opRot .rr (.reg .h) s

/-- RR L (R308). -/
def exec_rr_l (s : State) : Result State := opRot .rr (.reg .l) s

/-- RR (HL) (R308). -/
def exec_rr_atHL (s : State) : Result State := opRot .rr .atHL s

/-- RR A (R308). -/
def exec_rr_a (s : State) : Result State := opRot .rr (.reg .a) s

/-- SLA B (R309). -/
def exec_sla_b (s : State) : Result State := opRot .sla (.reg .b) s

/-- SLA C (R309). -/
def exec_sla_c (s : State) : Result State := opRot .sla (.reg .c) s

/-- SLA D (R309). -/
def exec_sla_d (s : State) : Result State := opRot .sla (.reg .d) s

/-- SLA E (R309). -/
def exec_sla_e (s : State) : Result State := opRot .sla (.reg .e) s

/-- SLA H (R309). -/
def exec_sla_h (s : State) : Result State := opRot .sla (.reg .h) s

/-- SLA L (R309). -/
def exec_sla_l (s : State) : Result State := opRot .sla (.reg .l) s

/-- SLA (HL) (R309). -/
def exec_sla_atHL (s : State) : Result State := opRot .sla .atHL s

/-- SLA A (R309). -/
def exec_sla_a (s : State) : Result State := opRot .sla (.reg .a) s

/-- SRA B (R310). -/
def exec_sra_b (s : State) : Result State := opRot .sra (.reg .b) s

/-- SRA C (R310). -/
def exec_sra_c (s : State) : Result State := opRot .sra (.reg .c) s

/-- SRA D (R310). -/
def exec_sra_d (s : State) : Result State := opRot .sra (.reg .d) s

/-- SRA E (R310). -/
def exec_sra_e (s : State) : Result State := opRot .sra (.reg .e) s

/-- SRA H (R310). -/
def exec_sra_h (s : State) : Result State := opRot .sra (.reg .h) s

/-- SRA L (R310). -/
def exec_sra_l (s : State) : Result State := opRot .sra (.reg .l) s

/-- SRA (HL) (R310). -/
def exec_sra_atHL (s : State) : Result State := opRot .sra .atHL s

/-- SRA A (R310). -/
def exec_sra_a (s : State) : Result State := opRot .sra (.reg .a) s

/-- SWAP B (R311). -/
def exec_swap_b (s : State) : Result State := opRot .swap (.reg .b) s

/-- SWAP C (R311). -/
def exec_swap_c (s : State) : Result State := opRot .swap (.reg .c) s

/-- SWAP D (R311). -/
def exec_swap_d (s : State) : Result State := opRot .swap (.reg .d) s

/-- SWAP E (R311). -/
def exec_swap_e (s : State) : Result State := opRot .swap (.reg .e) s

/-- SWAP H (R311). -/
def exec_swap_h (s : State) : Result State := opRot .swap (.reg .h) s

/-- SWAP L (R311). -/
def exec_swap_l (s : State) : Result State := opRot .swap (.reg .l) s

/-- SWAP (HL) (R311). -/
def exec_swap_atHL (s : State) : Result State := opRot .swap .atHL s

/-- SWAP A (R311). -/
def exec_swap_a (s : State) : Result State := opRot .swap (.reg .a) s

/-- SRL B (R312). -/
def exec_srl_b (s : State) : Result State := opRot .srl (.reg .b) s

/-- SRL C (R312). -/
def exec_srl_c (s : State) : Result State := opRot .srl (.reg .c) s

/-- SRL D (R312). -/
def exec_srl_d (s : State) : Result State := opRot .srl (.reg .d) s

/-- SRL E (R312). -/
def exec_srl_e (s : State) : Result State := opRot .srl (.reg .e) s

/-- SRL H (R312). -/
def exec_srl_h (s : State) : Result State := opRot .srl (.reg .h) s

/-- SRL L (R312). -/
def exec_srl_l (s : State) : Result State := opRot .srl (.reg .l) s

/-- SRL (HL) (R312). -/
def exec_srl_atHL (s : State) : Result State := opRot .srl .atHL s

/-- SRL A (R312). -/
def exec_srl_a (s : State) : Result State := opRot .srl (.reg .a) s

end Sys2Proof.Machine
end

