-- ==== Sys2Proof/Machine/Fetch.lean ====
section
/-! DEFINITION. Fetching an instruction through the bus (R118, R143, R144). -/

namespace Sys2Proof.Machine

/-- Fetch the instruction at PC, byte by byte in ascending order, each address modulo 2^16. The byte at PC alone
decides what follows: for 0xCB the sub-opcode, for an undefined opcode InvalidOpcode before any further bus access
(R404), otherwise its immediates, fetched whether or not a condition will hold (R80). The answer is the instruction
and the state with the fetch's bus events. DEDUCED, safe: any of these reads may raise BusFault, also where an
instruction's rule says "Exceptions: none" (log entry 10). -/
def fetch (s : State) : Result (Instr × State) :=
  andThen (readByte s.pc s) fun op =>
  match baseShape op.1 with
  | .plain o => .next (o.instr, op.2)
  | .imm8 o => andThen (readByte (s.pc + 1) op.2) fun n => .next ((o n.1).instr, n.2)
  | .imm16 o =>
    andThen (readByte (s.pc + 1) op.2) fun lo =>
    andThen (readByte (s.pc + 2) lo.2) fun hi => .next ((o (pairOf hi.1 lo.1)).instr, hi.2)
  | .prefixCB => andThen (readByte (s.pc + 1) op.2) fun sub => .next ((cbForm sub.1).instr, sub.2)
  | .undefined => .fault (.invalidOpcode op.1 s.pc)

/-- Place bytes in memory at rising addresses, apart from the bus: no event, and no regard to holes. -/
def placeBytes (a : Word) (bs : List Byte) (m : Memory) : Memory :=
  match bs with
  | [] => m
  | v :: rest => placeBytes (a + 1) rest (m.write a v)

/-- The bus with bytes placed at an address and without the holes that hide them from a read. -/
def Bus.place (a : Word) (bs : List Byte) (b : Bus) : Bus :=
  { b with
    mem := placeBytes a bs b.mem
    holes := b.holes.filter fun h => (List.range bs.length).all fun k => !h.covers .read (a + BitVec.ofNat 16 k) }

end Sys2Proof.Machine
end

