-- ==== Sys2Proof/Machine/Step.lean ====
section
/-! DEFINITION. One `step()` (R143), and where the next instruction is fetched from. -/

namespace Sys2Proof.Machine

/-- One step: an idle tick while the core is Halted or Stopped (R151); otherwise the instruction at PC is fetched and
executed, and the pending bit sampled before it is promoted (R412). -/
def step (s : State) : Host.Outcome State Fault Refusal :=
  match s.run with
  | .running =>
    andThen (fetch s) fun r => andThen (exec r.1 r.2) fun t => .next (promote s.imePending t)
  | .halted => .next (idleTick s)
  | .stopped => .next (idleTick s)

/-- The state in which the next step fetches and runs the table word: its bytes at PC, readable, and the core
running. DESIGN CHOICE, safe (log entry 8). -/
def State.withFetchWord (s : State) (nbits w : Nat) : State :=
  { s with run := .running, bus := s.bus.place s.pc (tableBytes nbits w) }

end Sys2Proof.Machine
end

