-- ==== Sys2Proof/Machine/Transactions.lean ====
section
/-! DEFINITION. The transactions of R140: what the host and the interrupt-source component can do to the core between
two steps. Each runs to completion before the next begins (R141). DEDUCED: they stand beside `step`, which takes no
interrupt itself (R152; log entry 13). -/

namespace Sys2Proof.Machine

/-- What `getState()` returns: every field of R30, and not the bus (R47). -/
structure Snapshot where
  a : Byte
  f : Byte
  b : Byte
  c : Byte
  d : Byte
  e : Byte
  h : Byte
  l : Byte
  sp : Word
  pc : Word
  cycles : Count
  run : RunState
  ime : Bool
  imePending : Bool
  deriving DecidableEq, Repr

/-- R47. -/
def getState (s : State) : Snapshot :=
  { a := s.a, f := s.f, b := s.b, c := s.c, d := s.d, e := s.e, h := s.h, l := s.l, sp := s.sp, pc := s.pc,
    cycles := s.cycles, run := s.run, ime := s.ime, imePending := s.imePending }

/-- A transaction of R140. The profile and the drawn values of `reset()` are parameters (R9, U14). -/
inductive Transaction where
  | step
  | getState
  | reset (profile : ResetProfile) (drawn : PowerOnDraw)
  | resume
  | interrupt (vector : Word)
  deriving DecidableEq, Repr

/-- What a transaction returns. -/
inductive Response where
  | ok (cycles : Count)
  | err (f : Fault)
  | snapshot (s : Snapshot)
  | done
  | accepted
  | turnedAway
  deriving DecidableEq, Repr

/-- The five entry vectors (R413, R415). -/
def interruptVectors : List Word := [0x40, 0x48, 0x50, 0x58, 0x60]

/-- `interrupt(v)` is accepted iff v is one of the five vectors and IME is 1 (R415, R416, decision D19). -/
def interruptAccepted (v : Word) (s : State) : Bool := interruptVectors.contains v && s.ime

/-- `interrupt(v)`: entry if accepted, otherwise no change at all (R415, R416). DESIGN CHOICE, unsafe: the PC that a
BusFault of its stack writes reports is the one it would have saved (log entry 9). -/
def interrupt (v : Word) (s : State) : Result (Response × State) :=
  if interruptAccepted v s then andThen (enterInterrupt v s) fun t => .next (.accepted, t)
  else .next (.turnedAway, s)

/-- `resume()`: Halted and Stopped become Running, nothing else changes, and it is not latched (R421, R424). -/
def resume (s : State) : State :=
  match s.run with
  | .running => s
  | .halted => { s with run := .running }
  | .stopped => { s with run := .running }

/-- One transaction: its response and the state after it. A step that raises InvalidOpcode returns the error and
leaves the core state as it was, with the opcode fetch on the bus (R148, R401); after a BusFault the bus is given, with
every access before the faulting one, and no core state (R148, R402; log entry 6). DEDUCED, safe: the returned cost is the growth of the counter (log entry 12). -/
def transact (x : Transaction) (s : State) : Result (Response × State) :=
  match x with
  | .step =>
    match step s with
    | .next t => .next (.ok (t.cycles - s.cycles), t)
    | .fault (.invalidOpcode op pc) =>
      .next (.err (.invalidOpcode op pc), { s with bus := s.bus.afterRead s.pc })
    | .fault (.busFault a k pc0 bus) => .fault (.busFault a k pc0 bus)
    | .refused r => .refused r
  | .getState => .next (.snapshot (getState s), s)
  | .reset p v => .next (.done, State.resetInto p v s.bus)
  | .resume => .next (.done, resume s)
  | .interrupt v => interrupt v s

end Sys2Proof.Machine
end

