-- ==== Sys2Proof/WellFormed.lean ====
section
/-! DEFINITION. The form of an encoding: which byte strings are one whole instruction (R100, R114, R116, R118).
Every operand of `Instr` is a bit vector of the width its field has, so no term of `Instr` is ill-formed; what can be
ill-formed is a byte string. The grid below is written from R116, apart from the decoder, which does not use it. -/

namespace Sys2Proof

/-- The eleven base opcodes the canonical reference has no entry for (R114). -/
def undefinedOpcodes : List Byte :=
  [0xD3, 0xDB, 0xDD, 0xE3, 0xE4, 0xEB, 0xEC, 0xED, 0xF4, 0xFC, 0xFD]

/-- The length map of the base table, a row for each high nibble; the prefix 0xCB has the whole length 2 (R116). -/
def lengthMap : List (List Nat) :=
  [
    [1, 3, 1, 1, 1, 1, 2, 1, 3, 1, 1, 1, 1, 1, 2, 1],
    [2, 3, 1, 1, 1, 1, 2, 1, 2, 1, 1, 1, 1, 1, 2, 1],
    [2, 3, 1, 1, 1, 1, 2, 1, 2, 1, 1, 1, 1, 1, 2, 1],
    [2, 3, 1, 1, 1, 1, 2, 1, 2, 1, 1, 1, 1, 1, 2, 1],
    [1, 1, 1, 1, 1, 1, 1, 1, 1, 1, 1, 1, 1, 1, 1, 1],
    [1, 1, 1, 1, 1, 1, 1, 1, 1, 1, 1, 1, 1, 1, 1, 1],
    [1, 1, 1, 1, 1, 1, 1, 1, 1, 1, 1, 1, 1, 1, 1, 1],
    [1, 1, 1, 1, 1, 1, 1, 1, 1, 1, 1, 1, 1, 1, 1, 1],
    [1, 1, 1, 1, 1, 1, 1, 1, 1, 1, 1, 1, 1, 1, 1, 1],
    [1, 1, 1, 1, 1, 1, 1, 1, 1, 1, 1, 1, 1, 1, 1, 1],
    [1, 1, 1, 1, 1, 1, 1, 1, 1, 1, 1, 1, 1, 1, 1, 1],
    [1, 1, 1, 1, 1, 1, 1, 1, 1, 1, 1, 1, 1, 1, 1, 1],
    [1, 1, 3, 3, 3, 1, 2, 1, 1, 1, 3, 2, 3, 3, 2, 1],
    [1, 1, 3, 1, 3, 1, 2, 1, 1, 1, 3, 1, 3, 1, 2, 1],
    [2, 1, 1, 1, 1, 1, 2, 1, 2, 1, 3, 1, 1, 1, 2, 1],
    [2, 1, 1, 1, 1, 1, 2, 1, 2, 1, 3, 1, 1, 1, 2, 1]
  ]

/-- The length of the instruction that begins with this byte: "The first byte alone determines the length" (R100). -/
def instructionLength (op : Byte) : Nat :=
  (lengthMap.getD (op.toNat / 16) []).getD (op.toNat % 16) 0

/-- The byte string has a first byte. -/
def hasOpcode (bs : List Byte) : Bool := !bs.isEmpty

/-- The first byte is not one of the eleven undefined opcodes (R114). -/
def opcodeDefined (bs : List Byte) : Bool := !undefinedOpcodes.contains (bs.headD 0)

/-- The string is exactly as long as its first byte says (R118). -/
def lengthExact (bs : List Byte) : Bool := bs.length == instructionLength (bs.headD 0)

/-- The byte string is one whole instruction. -/
def encodingWellFormed (bs : List Byte) : Bool := hasOpcode bs && opcodeDefined bs && lengthExact bs

end Sys2Proof
end

