-- ==== Sys2Proof/Safety.lean ====
section
/-! DEFINITION. The terms the claims use: what a safe state is (`State.Inv`), the tables of the spec that a claim holds
the machine against (cycles, bus accesses, registers and flags written), and what it is for a form to follow its rule. -/

namespace Sys2Proof

open Machine

/-! ## A safe state -/

/-- What every reachable state satisfies: the low nibble of F is 0 (R36, R37), and the memory has its canonical form. -/
structure Machine.State.Inv (s : State) : Prop where
  lowNibble : s.f &&& 0x0F = 0
  memory : s.bus.mem.wf = true

/-- The kind and address of a bus event. -/
def Machine.BusEvent.access (e : BusEvent) : Access × Word :=
  match e with
  | .read a => (.read, a)
  | .write a _ => (.write, a)

/-- The bus refuses this call (R402). -/
def Machine.Bus.rejectsCall (b : Bus) (e : BusEvent) : Bool := b.rejects e.access.1 e.access.2

/-- The bus after one call that it accepted (R14). -/
def Machine.Bus.afterCall (b : Bus) (e : BusEvent) : Bus :=
  match e with
  | .read a => b.afterRead a
  | .write a v => b.afterWrite a v

/-- The bus after a list of calls that it accepted, in their order (R79). -/
def Machine.Bus.afterCalls (b : Bus) (calls : List BusEvent) : Bus := calls.foldl Bus.afterCall b

/-- The bus accepts each call of a list. -/
def Machine.State.accepts (s : State) (calls : List BusEvent) : Bool := calls.all fun e => !s.bus.rejectsCall e

/-- The bytes a read would answer at PC and after it, each address modulo 2^16 (R40). -/
def Machine.State.bytesAtPc (s : State) (n : Nat) : List Byte :=
  (List.range n).map fun k => s.bus.peek (s.pc + BitVec.ofNat 16 k)

/-- The reads of a fetch of n bytes (R80). -/
def Machine.State.fetchReads (s : State) (n : Nat) : List BusEvent :=
  (List.range n).map fun k => .read (s.pc + BitVec.ofNat 16 k)

/-- The state in which the executor runs: the fetch's n read events are on the bus (R80, R143). -/
def Machine.State.afterFetch (s : State) (n : Nat) : State :=
  { s with bus := { s.bus with events := s.bus.events ++ s.fetchReads n } }

/-! ## The cycle grids (R117) -/

/-- The cycle map of the base table: (not taken, taken), a row for each high nibble; (0, 0) where no instruction
begins. -/
def cycleMap : List (List (Nat × Nat)) :=
  [
    [(4, 4), (12, 12), (8, 8), (8, 8), (4, 4), (4, 4), (8, 8), (4, 4), (20, 20), (8, 8), (8, 8), (8, 8), (4, 4), (4, 4), (8, 8), (4, 4)],
    [(4, 4), (12, 12), (8, 8), (8, 8), (4, 4), (4, 4), (8, 8), (4, 4), (12, 12), (8, 8), (8, 8), (8, 8), (4, 4), (4, 4), (8, 8), (4, 4)],
    [(8, 12), (12, 12), (8, 8), (8, 8), (4, 4), (4, 4), (8, 8), (4, 4), (8, 12), (8, 8), (8, 8), (8, 8), (4, 4), (4, 4), (8, 8), (4, 4)],
    [(8, 12), (12, 12), (8, 8), (8, 8), (12, 12), (12, 12), (12, 12), (4, 4), (8, 12), (8, 8), (8, 8), (8, 8), (4, 4), (4, 4), (8, 8), (4, 4)],
    [(4, 4), (4, 4), (4, 4), (4, 4), (4, 4), (4, 4), (8, 8), (4, 4), (4, 4), (4, 4), (4, 4), (4, 4), (4, 4), (4, 4), (8, 8), (4, 4)],
    [(4, 4), (4, 4), (4, 4), (4, 4), (4, 4), (4, 4), (8, 8), (4, 4), (4, 4), (4, 4), (4, 4), (4, 4), (4, 4), (4, 4), (8, 8), (4, 4)],
    [(4, 4), (4, 4), (4, 4), (4, 4), (4, 4), (4, 4), (8, 8), (4, 4), (4, 4), (4, 4), (4, 4), (4, 4), (4, 4), (4, 4), (8, 8), (4, 4)],
    [(8, 8), (8, 8), (8, 8), (8, 8), (8, 8), (8, 8), (4, 4), (8, 8), (4, 4), (4, 4), (4, 4), (4, 4), (4, 4), (4, 4), (8, 8), (4, 4)],
    [(4, 4), (4, 4), (4, 4), (4, 4), (4, 4), (4, 4), (8, 8), (4, 4), (4, 4), (4, 4), (4, 4), (4, 4), (4, 4), (4, 4), (8, 8), (4, 4)],
    [(4, 4), (4, 4), (4, 4), (4, 4), (4, 4), (4, 4), (8, 8), (4, 4), (4, 4), (4, 4), (4, 4), (4, 4), (4, 4), (4, 4), (8, 8), (4, 4)],
    [(4, 4), (4, 4), (4, 4), (4, 4), (4, 4), (4, 4), (8, 8), (4, 4), (4, 4), (4, 4), (4, 4), (4, 4), (4, 4), (4, 4), (8, 8), (4, 4)],
    [(4, 4), (4, 4), (4, 4), (4, 4), (4, 4), (4, 4), (8, 8), (4, 4), (4, 4), (4, 4), (4, 4), (4, 4), (4, 4), (4, 4), (8, 8), (4, 4)],
    [(8, 20), (12, 12), (12, 16), (16, 16), (12, 24), (16, 16), (8, 8), (16, 16), (8, 20), (16, 16), (12, 16), (0, 0), (12, 24), (24, 24), (8, 8), (16, 16)],
    [(8, 20), (12, 12), (12, 16), (0, 0), (12, 24), (16, 16), (8, 8), (16, 16), (8, 20), (16, 16), (12, 16), (0, 0), (12, 24), (0, 0), (8, 8), (16, 16)],
    [(12, 12), (12, 12), (8, 8), (0, 0), (0, 0), (16, 16), (8, 8), (16, 16), (16, 16), (4, 4), (16, 16), (0, 0), (0, 0), (0, 0), (8, 8), (16, 16)],
    [(12, 12), (12, 12), (8, 8), (4, 4), (0, 0), (16, 16), (8, 8), (16, 16), (12, 12), (8, 8), (16, 16), (4, 4), (0, 0), (0, 0), (8, 8), (16, 16)]
  ]

/-- The second table of R117: the cost of a whole CB-prefixed instruction. -/
def cbCycles (sub : Byte) : Nat :=
  if sub.toNat % 8 ≠ 6 then 8 else if sub.toNat / 64 = 1 then 12 else 16

/-- The cost of an encoding, (not taken, taken). -/
def tableCycles (bs : List Byte) : Nat × Nat :=
  if bs.headD 0 = 0xCB then (cbCycles (bs.getD 1 0), cbCycles (bs.getD 1 0))
  else (cycleMap.getD ((bs.headD 0).toNat / 16) []).getD ((bs.headD 0).toNat % 16) (0, 0)

/-! ## What each form may touch, from the rule of its row -/

/-- A conditional transfer is taken when its condition holds (R350). -/
def Form.taken (o : Form) (s : State) : Bool :=
  match o with
  | .jpCc cc _ => condHolds cc s.flags
  | .jrCc cc _ => condHolds cc s.flags
  | .callCc cc _ => condHolds cc s.flags
  | .retCc cc => condHolds cc s.flags
  | _ => false

/-- The cost of the form in this state (R146). -/
def Form.cost (o : Form) (s : State) : Count :=
  BitVec.ofNat 64 (if o.taken s then (tableCycles (encode o.instr)).2 else (tableCycles (encode o.instr)).1)

/-- The control transfers, which write PC themselves (R145). -/
def Form.isTransfer (o : Form) : Bool :=
  match o with
  | .jp _ | .jpCc _ _ | .jpHl | .jr _ | .jrCc _ _ | .call _ | .callCc _ _ | .rst _ | .ret | .retCc _ | .reti => true
  | _ => false

/-- The forms that end with PC = pc_next: all but the control transfers, and the conditional ones when their condition
does not hold (R145). -/
def Form.endsAtPcNext (o : Form) (s : State) : Bool :=
  match o with
  | .jpCc cc _ => !condHolds cc s.flags
  | .jrCc cc _ => !condHolds cc s.flags
  | .callCc cc _ => !condHolds cc s.flags
  | .retCc cc => !condHolds cc s.flags
  | _ => !o.isTransfer

/-- The registers of a pair. -/
def Pair.regs (p : Pair) : List Reg :=
  match p with
  | .bc => [.b, .c]
  | .de => [.d, .e]
  | .hl => [.h, .l]
  | .sp => []

/-- The register an `r8` operand names, if any. -/
def R8.regs (x : R8) : List Reg :=
  match x with
  | .reg r => [r]
  | .atHL => []

/-- The general registers a form writes: its destination, and HL where the addressing mode steps it. -/
def Form.regsWritten (o : Form) : List Reg :=
  match o with
  | .ldRegReg rd _ | .ldRegMem rd | .ldRegImm rd _ => [rd]
  | .ldAPtr _ | .ldAAbs _ | .ldhAImm _ | .ldhAC => [.a]
  | .ldAHli | .ldAHld => [.a, .h, .l]
  | .ldHliA | .ldHldA => [.h, .l]
  | .ldPairImm p _ | .incPair p | .decPair p => p.regs
  | .ldHlSp _ | .addHl _ => [.h, .l]
  | .pop .bc => [.b, .c]
  | .pop .de => [.d, .e]
  | .pop .hl => [.h, .l]
  | .pop .af => [.a]
  | .alu op _ | .aluImm op _ => if op = .cp then [] else [.a]
  | .incR8 x | .decR8 x | .rot _ x | .res _ x | .set _ x => x.regs
  | .daa | .cpl | .rlca | .rrca | .rla | .rra => [.a]
  | .ldMemReg _ | .ldMemImm _ | .ldPtrA _ | .ldAbsA _ | .ldhImmA _ | .ldhCA | .ldAbsSp _ | .ldSpHl | .push _ | .scf
  | .ccf | .addSp _ | .bit _ _ | .jp _ | .jpCc _ _ | .jpHl | .jr _ | .jrCc _ _ | .call _ | .callCc _ _ | .rst _ | .ret
  | .retCc _ | .reti | .nop | .halt | .stop _ | .di | .ei => []

/-- The forms that write SP (R41). -/
def Form.writesSp (o : Form) : Bool :=
  match o with
  | .ldPairImm .sp _ | .incPair .sp | .decPair .sp | .ldSpHl | .addSp _ | .push _ | .pop _ | .call _ | .callCc _ _
  | .rst _ | .ret | .retCc _ | .reti => true
  | _ => false

/-- The flags a form writes: the column `flags_ZNHC` of the opcode table. -/
def Form.writesFlag (o : Form) (k : Flag) : Bool :=
  match o with
  | .pop .af | .alu _ _ | .aluImm _ _ | .ldHlSp _ | .addSp _ | .rlca | .rrca | .rla | .rra | .rot _ _ => true
  | .incR8 _ | .decR8 _ | .bit _ _ => k != .carry
  | .daa => k != .subtract
  | .cpl => k == .subtract || k == .halfCarry
  | .scf | .ccf | .addHl _ => k != .zero
  | _ => false

/-- The forms that write the run state (R42). -/
def Form.writesRun (o : Form) : Bool :=
  match o with
  | .halt | .stop _ => true
  | _ => false

/-- The forms that write IME in their executor (R43). -/
def Form.writesIme (o : Form) : Bool :=
  match o with
  | .di | .reti => true
  | _ => false

/-- The forms that write the pending bit in their executor (R44). -/
def Form.writesPending (o : Form) : Bool :=
  match o with
  | .di | .ei | .reti => true
  | _ => false

/-! ## The codes of the operand fields (R106 to R111), for the encodings of the rules -/

def Reg.code (r : Reg) : Byte :=
  match r with
  | .b => 0
  | .c => 1
  | .d => 2
  | .e => 3
  | .h => 4
  | .l => 5
  | .a => 7

def R8.code (x : R8) : Byte :=
  match x with
  | .reg r => r.code
  | .atHL => 6

def Ptr.code (p : Ptr) : Byte :=
  match p with
  | .bc => 0
  | .de => 1

def Pair.code (p : Pair) : Byte :=
  match p with
  | .bc => 0
  | .de => 1
  | .hl => 2
  | .sp => 3

def StackPair.code (p : StackPair) : Byte :=
  match p with
  | .bc => 0
  | .de => 1
  | .hl => 2
  | .af => 3

def Cond.code (cc : Cond) : Byte :=
  match cc with
  | .nz => 0
  | .z => 1
  | .nc => 2
  | .c => 3

def AluOp.code (op : AluOp) : Byte :=
  match op with
  | .add => 0
  | .adc => 1
  | .sub => 2
  | .sbc => 3
  | .and => 4
  | .xor => 5
  | .or => 6
  | .cp => 7

def RotOp.code (op : RotOp) : Byte :=
  match op with
  | .rlc => 0
  | .rrc => 1
  | .rl => 2
  | .rr => 3
  | .sla => 4
  | .sra => 5
  | .swap => 6
  | .srl => 7

def Oct.code (n : Oct) : Byte :=
  match n with
  | .d0 => 0
  | .d1 => 1
  | .d2 => 2
  | .d3 => 3
  | .d4 => 4
  | .d5 => 5
  | .d6 => 6
  | .d7 => 7

/-! ## Operand values -/

/-- The value of `r8[k]` (R106). -/
def R8.value (x : R8) (s : State) : Byte :=
  match x with
  | .reg r => s.reg r
  | .atHL => s.bus.peek s.hl

/-- The bus after `r8[k]` was read. -/
def R8.busAfterRead (x : R8) (s : State) : Bus :=
  match x with
  | .reg _ => s.bus
  | .atHL => s.bus.afterRead s.hl

/-- The state after `r8[k]` was read and then written: for (HL) one read, then one write. -/
def R8.update (x : R8) (v : Byte) (s : State) : State :=
  match x with
  | .reg r => s.setReg r v
  | .atHL => { s with bus := (s.bus.afterRead s.hl).afterWrite s.hl v }

/-- The source operand of the two-operand ALU (R240). -/
inductive AluSource where
  | r8 (x : R8)
  | imm (n : Byte)
  deriving DecidableEq, Repr

/-- The form with this operation and source. -/
def AluSource.form (x : AluSource) (op : AluOp) : Form :=
  match x with
  | .r8 x => .alu op x
  | .imm n => .aluImm op n

/-- The encoding `10 yyy zzz`, or `11 yyy 110 nnnnnnnn` (R240). -/
def AluSource.bytes (x : AluSource) (op : AluOp) : List Byte :=
  match x with
  | .r8 x => [0x80 + 8 * op.code + x.code]
  | .imm n => [0xC6 + 8 * op.code, n]

/-- The operand's value. -/
def AluSource.value (x : AluSource) (s : State) : Byte :=
  match x with
  | .r8 x => x.value s
  | .imm n => n

/-- The state at the end of an ALU instruction but for A and F: "register source 1 byte and 4 cycles; (HL) source
1 byte and 8 cycles; n8 source 2 bytes and 8 cycles" (R240). -/
def AluSource.ended (x : AluSource) (s : State) : State :=
  match x with
  | .r8 (.reg _) => { s with pc := s.pc + 1, cycles := s.cycles + 4 }
  | .r8 .atHL => { s with pc := s.pc + 1, cycles := s.cycles + 8, bus := s.bus.afterRead s.hl }
  | .imm _ => { s with pc := s.pc + 2, cycles := s.cycles + 8 }

/-- The bus after the two byte writes of a word (R14, R73). -/
def Machine.Bus.afterWriteWord (b : Bus) (a v : Word) : Bus :=
  (b.afterWrite a (loByte v)).afterWrite (a + 1) (hiByte v)

/-- The bus after the two byte reads of a word (R14, R73). -/
def Machine.Bus.afterReadWord (b : Bus) (a : Word) : Bus := (b.afterRead a).afterRead (a + 1)

/-- The word two reads answer (R14, R73). -/
def Machine.Bus.peekWord (b : Bus) (a : Word) : Word := pairOf (b.peek (a + 1)) (b.peek a)

/-- When a condition holds, from its table (R109, R350). -/
def Cond.holds (cc : Cond) (s : State) : Bool :=
  match cc with
  | .nz => testFlag .zero s.f == false
  | .z => testFlag .zero s.f == true
  | .nc => testFlag .carry s.f == false
  | .c => testFlag .carry s.f == true

/-- The results of R305 to R312 in integer arithmetic, from the operand and the C flag: the value, and the bit shifted
out (0 for SWAP). -/
def RotOp.rule (op : RotOp) (v carry : Nat) : Nat × Nat :=
  match op with
  | .rlc => ((2 * v) % 256 + v / 128, v / 128)
  | .rrc => (v / 2 + 128 * (v % 2), v % 2)
  | .rl => ((2 * v) % 256 + carry, v / 128)
  | .rr => (v / 2 + 128 * carry, v % 2)
  | .sla => ((2 * v) % 256, v / 128)
  | .sra => (v / 2 + 128 * (v / 128), v % 2)
  | .swap => (16 * (v % 16) + v / 16, 0)
  | .srl => (v / 2, v % 2)

/-! ## The bus calls of each form -/

/-- The read of `r8[k]`: no call for a register. -/
def R8.reads (x : R8) (s : State) : List BusEvent :=
  match x with
  | .reg _ => []
  | .atHL => [.read s.hl]

/-- The write of `r8[k]`: no call for a register. -/
def R8.writes (x : R8) (v : Byte) (s : State) : List BusEvent :=
  match x with
  | .reg _ => []
  | .atHL => [.write s.hl v]

/-- A 16-bit read: two byte reads, the lower address first (R14, R73). -/
def wordReads (a : Word) : List BusEvent := [.read a, .read (a + 1)]

/-- A 16-bit write: two byte writes, the low byte first at the lower address (R14, R73). -/
def wordWrites (a v : Word) : List BusEvent := [.write a (loByte v), .write (a + 1) (hiByte v)]

/-- The data accesses of the executor with the values written, in the order its pseudocode lists them (R79, R80). -/
def Form.calls (o : Form) (s : State) : List BusEvent :=
  match o with
  | .ldRegMem _ => [.read s.hl]
  | .ldMemReg rs => [.write s.hl (s.reg rs)]
  | .ldMemImm n => [.write s.hl n]
  | .ldAPtr p => [.read (s.ptr p)]
  | .ldPtrA p => [.write (s.ptr p) s.a]
  | .ldAHli | .ldAHld => [.read s.hl]
  | .ldHliA | .ldHldA => [.write s.hl s.a]
  | .ldAAbs a => [.read a]
  | .ldAbsA a => [.write a s.a]
  | .ldhAImm n => [.read (highPage n)]
  | .ldhImmA n => [.write (highPage n) s.a]
  | .ldhAC => [.read (highPage s.c)]
  | .ldhCA => [.write (highPage s.c) s.a]
  | .ldAbsSp a => wordWrites a s.sp
  | .push p => wordWrites (s.sp - 2) (s.stackPair p)
  | .pop _ => wordReads s.sp
  | .alu _ x => x.reads s
  | .incR8 x => x.reads s ++ x.writes (x.value s + 1) s
  | .decR8 x => x.reads s ++ x.writes (x.value s - 1) s
  | .rot op x =>
    x.reads s ++ x.writes (BitVec.ofNat 8 (op.rule (x.value s).toNat (testFlag .carry s.f).toNat).1) s
  | .bit _ x => x.reads s
  | .res n x => x.reads s ++ x.writes (x.value s &&& ~~~((1 : Byte) <<< n.code.toNat)) s
  | .set n x => x.reads s ++ x.writes (x.value s ||| ((1 : Byte) <<< n.code.toNat)) s
  | .call _ => wordWrites (s.sp - 2) (s.pc + 3)
  | .callCc cc _ => if condHolds cc s.flags then wordWrites (s.sp - 2) (s.pc + 3) else []
  | .rst _ => wordWrites (s.sp - 2) (s.pc + 1)
  | .ret | .reti => wordReads s.sp
  | .retCc cc => if condHolds cc s.flags then wordReads s.sp else []
  | .ldRegReg _ _ | .ldRegImm _ _ | .ldPairImm _ _ | .ldSpHl | .ldHlSp _ | .aluImm _ _ | .daa | .cpl | .scf | .ccf
  | .addHl _ | .incPair _ | .decPair _ | .addSp _ | .rlca | .rrca | .rla | .rra | .jp _ | .jpCc _ _ | .jpHl | .jr _
  | .jrCc _ _ | .nop | .halt | .stop _ | .di | .ei => []

/-- The kinds and addresses of those accesses. -/
def Form.accesses (o : Form) (s : State) : List (Access × Word) := (o.calls s).map BusEvent.access

/-! ## A form follows its rule -/

/-- A step whose fetch meets a rejected byte ends with BusFault there, the bytes before it having been read
(R402, R404). -/
def FetchFaults (i : Instr) : Prop :=
  ∀ (s : State) (k : Nat), s.run = .running → k < (encode i).length →
    s.bytesAtPc k = (encode i).take k → s.accepts (s.fetchReads k) = true →
    s.bus.rejects .read (s.pc + BitVec.ofNat 16 k) = true →
    step s = .fault (.busFault (s.pc + BitVec.ofNat 16 k) .read s.pc (s.bus.afterCalls (s.fetchReads k)))

/-- "within an executor, the first faulting access in pseudocode order is the one reported" (R404), and every access
before it has occurred (R402). -/
def AccessFaults (o : Form) : Prop :=
  ∀ (s : State) (before after : List BusEvent) (e : BusEvent), o.calls s = before ++ e :: after →
    s.accepts before = true → s.bus.rejectsCall e = true →
    exec o.instr s = .fault (.busFault e.access.2 e.access.1 s.pc (s.bus.afterCalls before))

/-- The whole of an instruction rule (R15): its encoding, the BusFaults of its fetch and its accesses, and its next
state, which it reaches whenever the bus accepts its accesses. -/
structure Form.Follows (o : Form) (bytes : List Byte) (result : State → State) : Prop where
  encoding : encode o.instr = bytes
  fetchFaults : FetchFaults o.instr
  accessFaults : AccessFaults o
  effect : ∀ s : State, s.accepts (o.calls s) = true → exec o.instr s = .next (result s)

/-! ## Runs of transactions -/

/-- The cycles that a transaction adds, as its response tells: a step its returned cost, an accepted interrupt 20,
anything else none (R45, R466). -/
def Machine.Response.cycles (r : Response) : Count :=
  match r with
  | .ok n => n
  | .accepted => 20
  | .err _ => 0
  | .snapshot _ => 0
  | .done => 0
  | .turnedAway => 0

/-- A serial run of transactions (R141), with their responses in order. -/
def Machine.transactAll (xs : List Transaction) (s : State) : Result (List Response × State) :=
  match xs with
  | [] => .next ([], s)
  | x :: rest =>
    andThen (transact x s) fun p => andThen (transactAll rest p.2) fun q => .next (p.1 :: q.1, q.2)

/-- `reset()` sets the cycle counter; no other transaction does (R45, R466). -/
def Machine.Transaction.isReset (x : Transaction) : Bool :=
  match x with
  | .reset _ _ => true
  | _ => false

end Sys2Proof
end

