-- ==== Sys2Proof/Certificates/Slice0/Obligations.lean ====
section
/-! DEFINITION. The statements for the provers, from the numbered rules of the spec. A rule of an instruction is stated
as `Form.Follows` (Safety.lean): its encoding, the BusFaults of its fetch and of its accesses, and the next state it
reaches whenever the bus accepts its accesses, with every field written out. The rules fix the bus calls and their
order; that the bus behind them is plain memory with a map of holes is the model's choice (log entries 3 and 4), and
it is all that the content of the `bus` field rests on. -/

open Sys2Proof Sys2Proof.Machine

/-! ## Encoding -/

/-- Decoding an encoded instruction gives it back, with every operand at every value, and leaves the bytes after it. -/
def Obligations.DecodeOfEncodeIsTheInstruction : Prop :=
  ∀ (i : Instr) (rest : List Byte), decode (encode i ++ rest) = .instr i rest

/-- Each byte string that decodes is the encoding of what it decodes to: every byte of an encoding means one thing, the
second byte of STOP being an operand of the term (log entry 16). -/
def Obligations.EncodeOfDecodeIsTheBytes : Prop :=
  ∀ (bs : List Byte) (i : Instr) (rest : List Byte), decode bs = .instr i rest → bs = encode i ++ rest

/-- R100, R116: the byte strings that are one whole instruction are exactly the encodings; the first byte alone gives
the length, which is 1, 2 or 3, and 2 after the prefix 0xCB. -/
def Obligations.WellFormedStringsAreTheEncodings : Prop :=
  (∀ bs : List Byte, encodingWellFormed bs = true ↔ ∃ i : Instr, encode i = bs) ∧
  ∀ i : Instr, (encode i).length = instructionLength ((encode i).headD 0) ∧
    1 ≤ (encode i).length ∧ (encode i).length ≤ 3 ∧ ((encode i).headD 0 = 0xCB → (encode i).length = 2)

/-- R114, R115: the decoder rejects exactly the eleven undefined opcodes, by name, and no CB sub-opcode. -/
def Obligations.TheElevenOpcodesAreUndefined : Prop :=
  (∀ (op : Byte) (rest : List Byte), decode (op :: rest) = .undefinedOpcode op ↔
    op ∈ [0xD3, 0xDB, 0xDD, 0xE3, 0xE4, 0xEB, 0xEC, 0xED, 0xF4, 0xFC, 0xFD]) ∧
  (∀ (sub : Byte) (rest : List Byte), ∃ i : Instr, decode (0xCB :: sub :: rest) = .instr i rest) ∧
  ∀ (s : State) (op : Byte) (pc : Word), s.bus.peek s.pc = 0xCB → step s ≠ .fault (.invalidOpcode op pc)

/-- Words written out from the formats of R101 decode to what they stand for. -/
def Obligations.WrittenWordsDecode : Prop :=
  decode [0b01000001] = .instr .ld_b_c [] ∧
  decode [0b00110110, 0xAB] = .instr (.ld_atHL_n8 0xAB) [] ∧
  decode [0b00100001, 0x34, 0x12] = .instr (.ld_hl_n16 0x1234) [] ∧
  decode [0b11110101] = .instr .push_af [] ∧
  decode [0b10001110] = .instr .adc_a_atHL [] ∧
  decode [0b00111001] = .instr .add_hl_sp [] ∧
  decode [0b11001011, 0b00110111] = .instr .swap_a [] ∧
  decode [0b11001011, 0b01111100] = .instr .bit_7_h [] ∧
  decode [0b11011100, 0x00, 0x30] = .instr (.call_c_a16 0x3000) [] ∧
  decode [0b11101111] = .instr .rst_28 [] ∧
  decode [0b00010000, 0x00] = .instr (.stop 0x00) []

/-! ## The step -/

/-- R143: when the bytes at PC decode to an instruction, the step of a running core reads them, runs that instruction's
meaning in the state with those reads on the bus, and then promotes the pending bit that it sampled at its start. -/
def Obligations.StepRunsTheFetchedInstruction : Prop :=
  ∀ (s : State) (i : Instr) (rest : List Byte), s.run = .running → decode (s.bytesAtPc 3) = .instr i rest →
    s.accepts (s.fetchReads (3 - rest.length)) = true →
    step s = andThen (exec i (s.afterFetch (3 - rest.length))) fun t =>
      .next (if s.imePending && t.imePending then { t with ime := true, imePending := false } else t)

/-- R401, R385, R114: InvalidOpcode is raised exactly by a running core whose opcode fetch answers one of the eleven
bytes, with that byte and its address; no core state changes, the fetch is on the bus, and the next step raises it
again. -/
def Obligations.UndefinedOpcodesRaiseInvalidOpcode : Prop :=
  (∀ s : State, s.run = .running →
    s.bus.peek s.pc ∈ [0xD3, 0xDB, 0xDD, 0xE3, 0xE4, 0xEB, 0xEC, 0xED, 0xF4, 0xFC, 0xFD] →
    s.bus.rejects .read s.pc = false →
    step s = .fault (.invalidOpcode (s.bus.peek s.pc) s.pc) ∧
    transact .step s =
      .next (.err (.invalidOpcode (s.bus.peek s.pc) s.pc), { s with bus := s.bus.afterRead s.pc }) ∧
    step { s with bus := s.bus.afterRead s.pc } = .fault (.invalidOpcode (s.bus.peek s.pc) s.pc)) ∧
  ∀ (s : State) (op : Byte) (pc : Word), step s = .fault (.invalidOpcode op pc) →
    s.run = .running ∧ pc = s.pc ∧ op = s.bus.peek s.pc ∧ s.bus.rejects .read s.pc = false ∧
    op ∈ [0xD3, 0xDB, 0xDD, 0xE3, 0xE4, 0xEB, 0xEC, 0xED, 0xF4, 0xFC, 0xFD]

/-- R404, which the spec marks as derived from R143 and R402: a step ends at the first access that the bus rejects, in
the order of its fetch and then of its executor, and its BusFault carries the bus as it stood at that access, every one
before it done, in the step and in its transaction alike (R148, R402). A rejected opcode fetch comes before any
decoding; and without a rejected access an instruction completes. -/
def Obligations.StepReportsTheFirstRejectedAccess : Prop :=
  (∀ (s : State) (i : Instr) (rest : List Byte) (before after : List BusEvent) (e : BusEvent), s.run = .running →
    decode (s.bytesAtPc 3) = .instr i rest →
    s.fetchReads (3 - rest.length) ++ i.form.calls s = before ++ e :: after → s.accepts before = true →
    s.bus.rejectsCall e = true →
    step s = .fault (.busFault e.access.2 e.access.1 s.pc (s.bus.afterCalls before)) ∧
    transact .step s = .fault (.busFault e.access.2 e.access.1 s.pc (s.bus.afterCalls before))) ∧
  (∀ s : State, s.run = .running → s.bus.rejects .read s.pc = true →
    step s = .fault (.busFault s.pc .read s.pc s.bus)) ∧
  (∀ (s : State) (op : Byte), s.run = .running → decode (s.bytesAtPc 3) = .undefinedOpcode op →
    s.bus.rejects .read s.pc = false → step s = .fault (.invalidOpcode op s.pc)) ∧
  ∀ (s : State) (i : Instr) (rest : List Byte), s.run = .running → decode (s.bytesAtPc 3) = .instr i rest →
    s.accepts (s.fetchReads (3 - rest.length) ++ i.form.calls s) = true → ∃ t, step s = .next t

/-- R151: the idle tick of a Halted or Stopped core adds 4 to the counter, returns 4 and changes nothing else. -/
def Obligations.IdleTickOnlyAddsFourCycles : Prop :=
  ∀ s : State, s.run = .halted ∨ s.run = .stopped →
    step s = .next { s with cycles := s.cycles + 4 } ∧
    transact .step s = .next (.ok 4, { s with cycles := s.cycles + 4 })

/-- The invariant of R36 and R37 (the low nibble of F is 0) and of the memory's canonical form, which is the model's
representation (log entry 3), kept by every step and by every other transaction; and where a transaction ends in a
BusFault, the memory of the bus it carries has that form too. -/
def Obligations.EveryTransactionKeepsTheInvariant : Prop :=
  (∀ s t : State, s.Inv → step s = .next t → t.Inv) ∧
  (∀ (x : Transaction) (s t : State) (r : Response), s.Inv → transact x s = .next (r, t) → t.Inv) ∧
  ∀ (x : Transaction) (s : State) (a pc0 : Word) (k : Access) (b : Bus), s.Inv →
    transact x s = .fault (.busFault a k pc0 b) → b.mem.wf = true

/-- The state after reset meets the invariant, under both profiles, whatever is drawn. -/
def Obligations.ResetMeetsTheInvariant : Prop :=
  State.reset.Inv ∧
  ∀ (p : ResetProfile) (v : PowerOnDraw) (bus : Bus), bus.mem.wf = true → (State.resetInto p v bus).Inv

/-- R48, R450: `reset()` from any state, under both profiles, writes every field and performs no bus access. The
values drawn under POWER_ON are any values. The last clause is `State.reset` under the default profile, in the fields
the spec gives a value. -/
def Obligations.ResetWritesTheResetValues : Prop :=
  (∀ (s : State) (v : PowerOnDraw), transact (.reset .powerOn v) s = .next (.done,
    { a := v.a, f := v.f &&& 0xF0, b := v.b, c := v.c, d := v.d, e := v.e, h := v.h, l := v.l, sp := v.sp,
      pc := 0x0000, cycles := 0, run := .running, ime := false, imePending := false, bus := s.bus })) ∧
  (∀ (s : State) (v : PowerOnDraw), transact (.reset .postBootDmg v) s = .next (.done,
    { a := 0x01, f := 0xB0, b := 0x00, c := 0x13, d := 0x00, e := 0xD8, h := 0x01, l := 0x4D, sp := 0xFFFE,
      pc := 0x0100, cycles := 0, run := .running, ime := false, imePending := false, bus := s.bus })) ∧
  State.reset.pc = 0x0000 ∧ State.reset.cycles = 0 ∧ State.reset.run = .running ∧ State.reset.ime = false ∧
  State.reset.imePending = false ∧ State.reset.f &&& 0x0F = 0

/-! ## Every instruction -/

/-- R72, R400: no instruction is refused, none raises anything but a BusFault, and under the default configuration
none fails. The BusFault is at one of the instruction's accesses, those before it done (R402). -/
def Obligations.NoInstructionFailsOnTheDefaultBus : Prop :=
  (∀ (i : Instr) (s : State), s.bus.faultEnabled = false → ∃ t, exec i s = .next t) ∧
  (∀ (i : Instr) (s : State) (r : Fault), exec i s = .fault r →
    s.bus.faultEnabled = true ∧ ∃ before e after, i.form.calls s = before ++ e :: after ∧
      r = .busFault e.access.2 e.access.1 s.pc (s.bus.afterCalls before)) ∧
  (∀ (i : Instr) (s : State) (r : Refusal), exec i s ≠ .refused r) ∧
  ∀ (s : State) (r : Refusal), step s ≠ .refused r

/-- R117, R145, R146: every instruction reaches a next state whenever the bus accepts its accesses. Its cost is the
one of the cycle grid, taken or not taken, and unless it transfers control PC ends at the address after its bytes. -/
def Obligations.EveryInstructionCompletesAtItsTableCost : Prop :=
  ∀ (i : Instr) (s : State), s.accepts (i.form.calls s) = true →
    ∃ t, exec i s = .next t ∧ t.cycles = s.cycles + i.form.cost s ∧
      (i.form.endsAtPcNext s = true → t.pc = s.pc + BitVec.ofNat 16 (encode i).length)

/-- R146: a step returns its instruction's cost and adds it to the counter, so over any run of transactions without a
reset the counter grows by the sum of what was returned, and by 20 for each accepted interrupt. -/
def Obligations.CyclesAreTheSumOfTheReturnedCosts : Prop :=
  (∀ (s t : State) (n : Count) (i : Instr) (rest : List Byte), s.run = .running →
    decode (s.bytesAtPc 3) = .instr i rest → transact .step s = .next (.ok n, t) →
    n = i.form.cost s ∧ t.cycles = s.cycles + n) ∧
  ∀ (xs : List Transaction) (s t : State) (rs : List Response), (xs.all fun x => !x.isReset) = true →
    transactAll xs s = .next (rs, t) → t.cycles = s.cycles + (rs.map Response.cycles).sum

/-- The frame of the registers: an instruction writes no general register but those its rule names. -/
def Obligations.OtherRegistersAreUnchanged : Prop :=
  ∀ (i : Instr) (s t : State) (r : Reg), exec i s = .next t → r ∉ i.form.regsWritten → t.reg r = s.reg r

/-- The frame of the flags: an instruction writes no flag but those of its table column `flags_ZNHC`, and the low
nibble of F stays as it is, except that POP AF clears it. -/
def Obligations.OtherFlagsAreUnchanged : Prop :=
  ∀ (i : Instr) (s t : State), exec i s = .next t →
    (∀ k : Flag, i.form.writesFlag k = false → testFlag k t.f = testFlag k s.f) ∧
    t.f &&& 0x0F = if i = .pop_af then 0 else s.f &&& 0x0F

/-- The frame of SP and of the control state: only the instructions of R41 write SP, only HALT and STOP the run state
(R42), only DI and RETI write IME in their executor (R43), and only EI, DI and RETI the pending bit (R44). -/
def Obligations.OtherControlStateIsUnchanged : Prop :=
  ∀ (i : Instr) (s t : State), exec i s = .next t →
    (i.form.writesSp = false → t.sp = s.sp) ∧
    (i.form.writesRun = false → t.run = s.run) ∧
    (i.form.writesIme = false → t.ime = s.ime) ∧
    (i.form.writesPending = false → t.imePending = s.imePending)

/-- The frame of memory: an instruction changes no byte but those it stores to, at the addresses of its write accesses,
and nothing of the bus's map. That memory keeps what was written is the model's choice of a bus (log entry 3). -/
def Obligations.OtherMemoryIsUnchanged : Prop :=
  ∀ (i : Instr) (s t : State), exec i s = .next t →
    (∀ a : Word, (Access.write, a) ∉ i.form.accesses s → t.bus.peek a = s.bus.peek a) ∧
    t.bus.holes = s.bus.holes ∧ t.bus.faultEnabled = s.bus.faultEnabled ∧ t.bus.mem.openBus = s.bus.mem.openBus

/-- R80: the bus events of a step are the fetch of its bytes in ascending order and then its executor's accesses in
their order, with the values written, none added, dropped, merged or reordered; and the bus it ends with is the one
those calls leave, one after another. -/
def Obligations.BusEventsAreTheFetchThenTheAccesses : Prop :=
  (∀ (s t : State) (i : Instr) (rest : List Byte), s.run = .running → decode (s.bytesAtPc 3) = .instr i rest →
    step s = .next t → t.bus.events = s.bus.events ++ s.fetchReads (encode i).length ++ i.form.calls s ∧
      t.bus = s.bus.afterCalls (s.fetchReads (encode i).length ++ i.form.calls s)) ∧
  ∀ (i : Instr) (s t : State), exec i s = .next t → t.bus.events = s.bus.events ++ i.form.calls s ∧
    t.bus = s.bus.afterCalls (i.form.calls s)

/-! ## Registers, flags and memory -/

/-- R34, R35: a pair reads `(high << 8) | low`, and a write of a pair writes both halves; AF clears the low nibble. -/
def Obligations.PairsAreViewsOfTheirHalves : Prop :=
  (∀ s : State, (s.pair .bc).toNat = s.b.toNat * 256 + s.c.toNat ∧ (s.pair .de).toNat = s.d.toNat * 256 + s.e.toNat ∧
    (s.pair .hl).toNat = s.h.toNat * 256 + s.l.toNat ∧
    (s.stackPair .af).toNat = s.a.toNat * 256 + s.f.toNat ∧
    s.stackPair .bc = s.pair .bc ∧ s.stackPair .de = s.pair .de ∧ s.stackPair .hl = s.pair .hl) ∧
  (∀ (s : State) (v : Word),
    s.setPair .bc v = { s with b := BitVec.ofNat 8 (v.toNat / 256), c := BitVec.ofNat 8 (v.toNat % 256) } ∧
    s.setPair .de v = { s with d := BitVec.ofNat 8 (v.toNat / 256), e := BitVec.ofNat 8 (v.toNat % 256) } ∧
    s.setPair .hl v = { s with h := BitVec.ofNat 8 (v.toNat / 256), l := BitVec.ofNat 8 (v.toNat % 256) } ∧
    s.setStackPair .bc v = s.setPair .bc v ∧ s.setStackPair .de v = s.setPair .de v ∧
    s.setStackPair .hl v = s.setPair .hl v ∧
    s.setStackPair .af v =
      { s with a := BitVec.ofNat 8 (v.toNat / 256), f := BitVec.ofNat 8 (v.toNat % 256) &&& 0xF0 }) ∧
  ∀ (s : State) (p : Pair) (v : Word), (s.setPair p v).pair p = v

/-- R38, R36: each flag primitive reads or writes its own bit of F (Z 7, N 6, H 5, C 4) and no other. -/
def Obligations.FlagPrimitivesTouchOneBit : Prop :=
  (∀ f : Byte, testFlag .zero f = f.getLsbD 7 ∧ testFlag .subtract f = f.getLsbD 6 ∧
    testFlag .halfCarry f = f.getLsbD 5 ∧ testFlag .carry f = f.getLsbD 4) ∧
  (∀ (k k' : Flag) (v : Bool) (f : Byte), testFlag k' (assignFlag k v f) = if k' = k then v else testFlag k' f) ∧
  (∀ (k : Flag) (f : Byte), setFlag k f = assignFlag k true f ∧ clearFlag k f = assignFlag k false f) ∧
  ∀ (k : Flag) (v : Bool) (f : Byte), assignFlag k v f &&& 0x0F = f &&& 0x0F

/-- R73, and R75, which the spec marks as derived: a 16-bit access is two byte accesses, the low byte at the lower
address, modulo 2^16. The hypotheses say that the bus is plain memory at both addresses: they are mapped for reads and
for writes (log entries 3 and 4). -/
def Obligations.WordAccessesAreTwoByteAccesses : Prop :=
  (∀ (s : State) (a v : Word),
    (s.bus.unmapped .read a || s.bus.unmapped .write a || s.bus.unmapped .read (a + 1) ||
      s.bus.unmapped .write (a + 1)) = false →
    ∃ t, writeWord a v s = .next t ∧ t.bus.peek a = BitVec.ofNat 8 (v.toNat % 256) ∧
      t.bus.peek (a + 1) = BitVec.ofNat 8 (v.toNat / 256) ∧
      (∀ b : Word, b ≠ a → b ≠ a + 1 → t.bus.peek b = s.bus.peek b) ∧
      t.bus.events = s.bus.events ++
        [.write a (BitVec.ofNat 8 (v.toNat % 256)), .write (a + 1) (BitVec.ofNat 8 (v.toNat / 256))]) ∧
  ∀ (s : State) (a : Word), s.bus.rejects .read a = false → s.bus.rejects .read (a + 1) = false →
    ∃ v t, readWord a s = .next (v, t) ∧
      v.toNat = (s.bus.peek (a + 1)).toNat * 256 + (s.bus.peek a).toNat ∧
      t = { s with bus := { s.bus with events := s.bus.events ++ [.read a, .read (a + 1)] } }

/-- The memory behind the bus, the model's choice (log entry 3): a read after a write, the canonical form that a write
keeps, and that equal memories are equal data. -/
def Obligations.CanonicalMemoryIsDeterminedByItsReads : Prop :=
  (∀ (m : Memory) (a b : Word) (v : Byte), (m.write a v).read b = if b = a then v else m.read b) ∧
  (∀ (m : Memory) (a : Word) (v : Byte), m.wf = true → (m.write a v).wf = true) ∧
  ∀ m m' : Memory, m.wf = true → m'.wf = true → m.openBus = m'.openBus → (∀ a : Word, m.read a = m'.read a) → m = m'

/-! ## 8-bit loads -/

/-- R180: LD r,r', for the 49 pairs of registers; the same register twice changes only PC and the counter. R180 says
"Exceptions: none"; that a rejected fetch still raises BusFault (R143, R402) is log entry 10, DEDUCED. -/
def Obligations.LoadRegisterFromRegister : Prop :=
  ∀ rd rs : Reg, (Form.ldRegReg rd rs).Follows [0x40 + 8 * rd.code + rs.code] fun s =>
    { s.setReg rd (s.reg rs) with pc := s.pc + 1, cycles := s.cycles + 4 }

/-- R181: LD r,(HL) reads at the old HL. -/
def Obligations.LoadRegisterFromMemoryAtHL : Prop :=
  ∀ rd : Reg, (Form.ldRegMem rd).Follows [0x46 + 8 * rd.code] fun s =>
    { s.setReg rd (s.bus.peek s.hl) with
      pc := s.pc + 1, cycles := s.cycles + 8, bus := s.bus.afterRead s.hl }

/-- R182: LD (HL),r. -/
def Obligations.StoreRegisterToMemoryAtHL : Prop :=
  ∀ rs : Reg, (Form.ldMemReg rs).Follows [0x70 + rs.code] fun s =>
    { s with pc := s.pc + 1, cycles := s.cycles + 8, bus := s.bus.afterWrite s.hl (s.reg rs) }

/-- R183, R184: LD r,n8 and LD (HL),n8. -/
def Obligations.LoadImmediateByte : Prop :=
  (∀ (rd : Reg) (n : Byte), (Form.ldRegImm rd n).Follows [0x06 + 8 * rd.code, n] fun s =>
    { s.setReg rd n with pc := s.pc + 2, cycles := s.cycles + 8 }) ∧
  ∀ n : Byte, (Form.ldMemImm n).Follows [0x36, n] fun s =>
    { s with pc := s.pc + 2, cycles := s.cycles + 12, bus := s.bus.afterWrite s.hl n }

/-- R185, R186: LD A,(BC), LD A,(DE), LD (BC),A and LD (DE),A. -/
def Obligations.LoadAndStoreAThroughPair : Prop :=
  (∀ p : Ptr, (Form.ldAPtr p).Follows [0x0A + 16 * p.code] fun s =>
    { s with
      a := s.bus.peek (s.ptr p), pc := s.pc + 1, cycles := s.cycles + 8, bus := s.bus.afterRead (s.ptr p) }) ∧
  (∀ p : Ptr, (Form.ldPtrA p).Follows [0x02 + 16 * p.code] fun s =>
    { s with pc := s.pc + 1, cycles := s.cycles + 8, bus := s.bus.afterWrite (s.ptr p) s.a }) ∧
  ∀ s : State, s.ptr .bc = s.pair .bc ∧ s.ptr .de = s.pair .de

/-- R187 to R190: LD A,(HL+), LD A,(HL-), LD (HL+),A and LD (HL-),A, with HL stepped modulo 2^16. -/
def Obligations.LoadAndStoreAWithSteppedHL : Prop :=
  (Form.ldAHli.Follows [0x2A] fun s =>
    { s.setPair .hl (s.hl + 1) with
      a := s.bus.peek s.hl, pc := s.pc + 1, cycles := s.cycles + 8, bus := s.bus.afterRead s.hl }) ∧
  (Form.ldAHld.Follows [0x3A] fun s =>
    { s.setPair .hl (s.hl - 1) with
      a := s.bus.peek s.hl, pc := s.pc + 1, cycles := s.cycles + 8, bus := s.bus.afterRead s.hl }) ∧
  (Form.ldHliA.Follows [0x22] fun s =>
    { s.setPair .hl (s.hl + 1) with
      pc := s.pc + 1, cycles := s.cycles + 8, bus := s.bus.afterWrite s.hl s.a }) ∧
  Form.ldHldA.Follows [0x32] fun s =>
    { s.setPair .hl (s.hl - 1) with
      pc := s.pc + 1, cycles := s.cycles + 8, bus := s.bus.afterWrite s.hl s.a }

/-- R191 to R196: A loaded from and stored to an absolute address, the high page at an immediate offset, and the high
page at the offset in C. -/
def Obligations.LoadAndStoreAAbsoluteAndHighPage : Prop :=
  (∀ a : Word, (Form.ldAAbs a).Follows [0xFA, loByte a, hiByte a] fun s =>
    { s with a := s.bus.peek a, pc := s.pc + 3, cycles := s.cycles + 16, bus := s.bus.afterRead a }) ∧
  (∀ a : Word, (Form.ldAbsA a).Follows [0xEA, loByte a, hiByte a] fun s =>
    { s with pc := s.pc + 3, cycles := s.cycles + 16, bus := s.bus.afterWrite a s.a }) ∧
  (∀ n : Byte, (Form.ldhAImm n).Follows [0xF0, n] fun s =>
    { s with
      a := s.bus.peek (pairOf 0xFF n), pc := s.pc + 2, cycles := s.cycles + 12,
      bus := s.bus.afterRead (pairOf 0xFF n) }) ∧
  (∀ n : Byte, (Form.ldhImmA n).Follows [0xE0, n] fun s =>
    { s with pc := s.pc + 2, cycles := s.cycles + 12, bus := s.bus.afterWrite (pairOf 0xFF n) s.a }) ∧
  (Form.ldhAC.Follows [0xF2] fun s =>
    { s with
      a := s.bus.peek (pairOf 0xFF s.c), pc := s.pc + 1, cycles := s.cycles + 8,
      bus := s.bus.afterRead (pairOf 0xFF s.c) }) ∧
  Form.ldhCA.Follows [0xE2] fun s =>
    { s with pc := s.pc + 1, cycles := s.cycles + 8, bus := s.bus.afterWrite (pairOf 0xFF s.c) s.a }

/-! ## 16-bit loads and the stack -/

/-- R210, R212: LD rr,n16 and LD SP,HL. R212 says "Exceptions: none"; that a rejected fetch still raises BusFault
(R143, R402) is log entry 10, DEDUCED. -/
def Obligations.LoadPairImmediateAndSpFromHL : Prop :=
  (∀ (p : Pair) (n : Word), (Form.ldPairImm p n).Follows [0x01 + 16 * p.code, loByte n, hiByte n] fun s =>
    { s.setPair p n with pc := s.pc + 3, cycles := s.cycles + 12 }) ∧
  Form.ldSpHl.Follows [0xF9] fun s => { s with sp := s.hl, pc := s.pc + 1, cycles := s.cycles + 8 }

/-- R211: LD (a16),SP writes the low byte at a16 and the high byte at a16 + 1, modulo 2^16. -/
def Obligations.StoreSpToAbsoluteAddress : Prop :=
  ∀ a : Word, (Form.ldAbsSp a).Follows [0x08, loByte a, hiByte a] fun s =>
    { s with
      pc := s.pc + 3, cycles := s.cycles + 20,
      bus := (s.bus.afterWrite a (loByte s.sp)).afterWrite (a + 1) (hiByte s.sp) }

/-- R213, R283: LD HL,SP+e8 and ADD SP,e8. H and C come from the unsigned addition of the raw byte to SP's low byte,
also for a negative displacement, and Z is 0. These rules say "Exceptions: none"; that a rejected fetch still raises
BusFault (R143, R402) is log entry 10, DEDUCED. -/
def Obligations.AddDisplacementToSp : Prop :=
  (∀ e : Byte, (Form.ldHlSp e).Follows [0xF8, e] fun s =>
    { s.setPair .hl (BitVec.ofInt 16 (s.sp.toNat + e.toInt)) with
      f := writeFlags { z := false, n := false, h := decide (s.sp.toNat % 16 + e.toNat % 16 > 0x0F),
                        c := decide (s.sp.toNat % 256 + e.toNat > 0xFF) } s.f
      pc := s.pc + 2, cycles := s.cycles + 12 }) ∧
  ∀ e : Byte, (Form.addSp e).Follows [0xE8, e] fun s =>
    { s with
      sp := BitVec.ofInt 16 (s.sp.toNat + e.toInt)
      f := writeFlags { z := false, n := false, h := decide (s.sp.toNat % 16 + e.toNat % 16 > 0x0F),
                        c := decide (s.sp.toNat % 256 + e.toNat > 0xFF) } s.f
      pc := s.pc + 2, cycles := s.cycles + 16 }

/-- R214: PUSH rr. -/
def Obligations.PushPair : Prop :=
  ∀ p : StackPair, (Form.push p).Follows [0xC5 + 16 * p.code] fun s =>
    { s with
      sp := s.sp - 2, pc := s.pc + 1, cycles := s.cycles + 16,
      bus := (s.bus.afterWrite (s.sp - 2) (loByte (s.stackPair p))).afterWrite (s.sp - 2 + 1)
        (hiByte (s.stackPair p)) }

/-- R215, R216: POP rr and POP AF, which forces the low nibble of F to 0. -/
def Obligations.PopPair : Prop :=
  (∀ p : StackPair, p ≠ .af → (Form.pop p).Follows [0xC1 + 16 * p.code] fun s =>
    { s.setStackPair p (pairOf (s.bus.peek (s.sp + 1)) (s.bus.peek s.sp)) with
      sp := s.sp + 2, pc := s.pc + 1, cycles := s.cycles + 12,
      bus := (s.bus.afterRead s.sp).afterRead (s.sp + 1) }) ∧
  (Form.pop .af).Follows [0xF1] fun s =>
    { s with
      a := s.bus.peek (s.sp + 1), f := s.bus.peek s.sp &&& 0xF0, sp := s.sp + 2, pc := s.pc + 1,
      cycles := s.cycles + 12, bus := (s.bus.afterRead s.sp).afterRead (s.sp + 1) }

/-! ## 8-bit arithmetic and logic -/

/-- R241: ADD A,s. -/
def Obligations.AddToA : Prop :=
  ∀ x : AluSource, (x.form .add).Follows (x.bytes .add) fun s =>
    let t := s.a.toNat + (x.value s).toNat
    { x.ended s with
      a := BitVec.ofNat 8 t
      f := writeFlags { z := decide (t % 256 = 0), n := false,
                        h := decide (s.a.toNat % 16 + (x.value s).toNat % 16 > 0x0F), c := decide (t > 0xFF) } s.f }

/-- R242: ADC A,s. -/
def Obligations.AddToAWithCarry : Prop :=
  ∀ x : AluSource, (x.form .adc).Follows (x.bytes .adc) fun s =>
    let cy := (testFlag .carry s.f).toNat
    let t := s.a.toNat + (x.value s).toNat + cy
    { x.ended s with
      a := BitVec.ofNat 8 t
      f := writeFlags { z := decide (t % 256 = 0), n := false,
                        h := decide (s.a.toNat % 16 + (x.value s).toNat % 16 + cy > 0x0F),
                        c := decide (t > 0xFF) } s.f }

/-- R243, R248: SUB s, and CP s, which writes the same flags and keeps A. -/
def Obligations.SubtractFromAAndCompare : Prop :=
  ∀ x : AluSource,
    ((x.form .sub).Follows (x.bytes .sub) fun s =>
      let t : Int := s.a.toNat - (x.value s).toNat
      { x.ended s with
        a := BitVec.ofInt 8 t
        f := writeFlags { z := decide (t % 256 = 0), n := true,
                          h := decide (s.a.toNat % 16 < (x.value s).toNat % 16),
                          c := decide (s.a.toNat < (x.value s).toNat) } s.f }) ∧
    (x.form .cp).Follows (x.bytes .cp) fun s =>
      let t : Int := s.a.toNat - (x.value s).toNat
      { x.ended s with
        f := writeFlags { z := decide (t % 256 = 0), n := true,
                          h := decide (s.a.toNat % 16 < (x.value s).toNat % 16),
                          c := decide (s.a.toNat < (x.value s).toNat) } s.f }

/-- R244: SBC A,s. -/
def Obligations.SubtractFromAWithCarry : Prop :=
  ∀ x : AluSource, (x.form .sbc).Follows (x.bytes .sbc) fun s =>
    let cy : Int := (testFlag .carry s.f).toNat
    let t : Int := s.a.toNat - (x.value s).toNat - cy
    { x.ended s with
      a := BitVec.ofInt 8 t
      f := writeFlags { z := decide (t % 256 = 0), n := true,
                        h := decide ((s.a.toNat % 16 : Int) - ((x.value s).toNat % 16 : Int) - cy < 0),
                        c := decide (t < 0) } s.f }

/-- R245, R246, R247: AND s, XOR s and OR s. -/
def Obligations.LogicalOperationsOnA : Prop :=
  ∀ x : AluSource,
    ((x.form .and).Follows (x.bytes .and) fun s =>
      { x.ended s with
        a := s.a &&& x.value s
        f := writeFlags { z := decide (s.a &&& x.value s = 0), n := false, h := true, c := false } s.f }) ∧
    ((x.form .xor).Follows (x.bytes .xor) fun s =>
      { x.ended s with
        a := s.a ^^^ x.value s
        f := writeFlags { z := decide (s.a ^^^ x.value s = 0), n := false, h := false, c := false } s.f }) ∧
    (x.form .or).Follows (x.bytes .or) fun s =>
      { x.ended s with
        a := s.a ||| x.value s
        f := writeFlags { z := decide (s.a ||| x.value s = 0), n := false, h := false, c := false } s.f }

/-- R249, R250: INC s8 and DEC s8; C is unchanged. -/
def Obligations.IncrementAndDecrementByte : Prop :=
  ∀ x : R8,
    ((Form.incR8 x).Follows [0x04 + 8 * x.code] fun s =>
      { x.update (x.value s + 1) s with
        f := writeFlags { z := decide ((x.value s).toNat = 255), n := false,
                          h := decide ((x.value s).toNat % 16 = 15), c := testFlag .carry s.f } s.f
        pc := s.pc + 1, cycles := s.cycles + r8Cost x 4 12 }) ∧
    (Form.decR8 x).Follows [0x05 + 8 * x.code] fun s =>
      { x.update (x.value s - 1) s with
        f := writeFlags { z := decide ((x.value s).toNat = 1), n := true,
                          h := decide ((x.value s).toNat % 16 = 0), c := testFlag .carry s.f } s.f
        pc := s.pc + 1, cycles := s.cycles + r8Cost x 4 12 }

/-- R251: DAA, by the algorithm of the rule. R251 says "Exceptions: none"; that a rejected fetch still raises BusFault
(R143, R402) is log entry 10, DEDUCED. -/
def Obligations.DecimalAdjust : Prop :=
  Form.daa.Follows [0x27] fun s =>
    let n := testFlag .subtract s.f
    let hf := testFlag .halfCarry s.f
    let cy := testFlag .carry s.f
    let c := if n then cy else cy || decide (s.a.toNat > 0x99)
    let a1 : Int := if n then (if cy then s.a.toNat - 0x60 else s.a.toNat)
      else (if c then s.a.toNat + 0x60 else s.a.toNat)
    let a2 : Int := if n then (if hf then a1 - 0x06 else a1)
      else (if hf || decide (s.a.toNat % 16 > 0x09) then a1 + 0x06 else a1)
    { s with
      a := BitVec.ofInt 8 a2
      f := writeFlags { z := decide (a2 % 256 = 0), n := n, h := false, c := c } s.f
      pc := s.pc + 1, cycles := s.cycles + 4 }

/-- The purpose of DAA (R16): after ADC of two packed decimal bytes it leaves their decimal sum with the decimal carry
in C, and after SBC their decimal difference with the decimal borrow in C. -/
def Obligations.DecimalAdjustCorrectsAdditionAndSubtraction : Prop :=
  ∀ (s : State) (a1 a0 b1 b0 : Nat), a1 < 10 → a0 < 10 → b1 < 10 → b0 < 10 →
    s.a = BitVec.ofNat 8 (16 * a1 + a0) →
    let cy := (testFlag .carry s.f).toNat
    let sum := 10 * a1 + a0 + (10 * b1 + b0) + cy
    let difference : Int := (10 * a1 + a0 : Int) - (10 * b1 + b0) - cy
    (∃ t u, exec (.adc_a_n8 (BitVec.ofNat 8 (16 * b1 + b0))) s = .next t ∧ exec .daa t = .next u ∧
      u.a = BitVec.ofNat 8 (16 * (sum / 10 % 10) + sum % 10) ∧ testFlag .carry u.f = decide (sum > 99)) ∧
    ∃ t u, exec (.sbc_a_n8 (BitVec.ofNat 8 (16 * b1 + b0))) s = .next t ∧ exec .daa t = .next u ∧
      u.a = BitVec.ofInt 8 (16 * (difference / 10 % 10) + difference % 10) ∧
      testFlag .carry u.f = decide (difference < 0)

/-- R252, R253, R254: CPL, SCF and CCF. These rules say "Exceptions: none"; that a rejected fetch still raises
BusFault (R143, R402) is log entry 10, DEDUCED. -/
def Obligations.ComplementAndCarryOperations : Prop :=
  (Form.cpl.Follows [0x2F] fun s =>
    { s with
      a := BitVec.ofNat 8 (255 - s.a.toNat)
      f := writeFlags { z := testFlag .zero s.f, n := true, h := true, c := testFlag .carry s.f } s.f
      pc := s.pc + 1, cycles := s.cycles + 4 }) ∧
  (Form.scf.Follows [0x37] fun s =>
    { s with
      f := writeFlags { z := testFlag .zero s.f, n := false, h := false, c := true } s.f
      pc := s.pc + 1, cycles := s.cycles + 4 }) ∧
  Form.ccf.Follows [0x3F] fun s =>
    { s with
      f := writeFlags { z := testFlag .zero s.f, n := false, h := false, c := !testFlag .carry s.f } s.f
      pc := s.pc + 1, cycles := s.cycles + 4 }

/-! ## 16-bit arithmetic -/

/-- R280: ADD HL,rr; Z is unchanged. R280 says "Exceptions: none"; that a rejected fetch still raises BusFault (R143,
R402) is log entry 10, DEDUCED. -/
def Obligations.AddPairToHL : Prop :=
  ∀ p : Pair, (Form.addHl p).Follows [0x09 + 16 * p.code] fun s =>
    let t := s.hl.toNat + (s.pair p).toNat
    { s.setPair .hl (BitVec.ofNat 16 t) with
      f := writeFlags { z := testFlag .zero s.f, n := false,
                        h := decide (s.hl.toNat % 4096 + (s.pair p).toNat % 4096 > 0x0FFF),
                        c := decide (t > 0xFFFF) } s.f
      pc := s.pc + 1, cycles := s.cycles + 8 }

/-- R281, R282: INC rr and DEC rr, modulo 2^16, without flags. These rules say "Exceptions: none"; that a rejected
fetch still raises BusFault (R143, R402) is log entry 10, DEDUCED. -/
def Obligations.IncrementAndDecrementPair : Prop :=
  ∀ p : Pair,
    ((Form.incPair p).Follows [0x03 + 16 * p.code] fun s =>
      { s.setPair p (s.pair p + 1) with pc := s.pc + 1, cycles := s.cycles + 8 }) ∧
    (Form.decPair p).Follows [0x0B + 16 * p.code] fun s =>
      { s.setPair p (s.pair p - 1) with pc := s.pc + 1, cycles := s.cycles + 8 }

/-! ## Rotates, shifts and bits -/

/-- R300 to R303: RLCA, RRCA, RLA and RRA; Z is 0 whatever the result. These rules say "Exceptions: none"; that a
rejected fetch still raises BusFault (R143, R402) is log entry 10, DEDUCED. -/
def Obligations.AccumulatorRotates : Prop :=
  ∀ x ∈ [(Form.rlca, RotOp.rlc, (0x07 : Byte)), (Form.rrca, RotOp.rrc, 0x0F), (Form.rla, RotOp.rl, 0x17),
      (Form.rra, RotOp.rr, 0x1F)],
    x.1.Follows [x.2.2] fun s =>
      let r := x.2.1.rule s.a.toNat (testFlag .carry s.f).toNat
      { s with
        a := BitVec.ofNat 8 r.1
        f := writeFlags { z := false, n := false, h := false, c := decide (r.2 = 1) } s.f
        pc := s.pc + 1, cycles := s.cycles + 4 }

/-- R304 to R312: the CB rotates, shifts and SWAP, on a register or on (HL), which is read and then written. -/
def Obligations.RotatesAndShifts : Prop :=
  ∀ (op : RotOp) (x : R8), (Form.rot op x).Follows [0xCB, 8 * op.code + x.code] fun s =>
    let r := op.rule (x.value s).toNat (testFlag .carry s.f).toNat
    { x.update (BitVec.ofNat 8 r.1) s with
      f := writeFlags { z := decide (r.1 = 0), n := false, h := false, c := decide (r.2 = 1) } s.f
      pc := s.pc + 2, cycles := s.cycles + r8Cost x 8 16 }

/-- R330: BIT b,r8 reads its operand and writes nothing but flags. -/
def Obligations.TestBit : Prop :=
  ∀ (n : Oct) (x : R8), (Form.bit n x).Follows [0xCB, 0x40 + 8 * n.code + x.code] fun s =>
    { s with
      f := writeFlags { z := decide ((x.value s).toNat / 2 ^ n.code.toNat % 2 = 0), n := false, h := true,
                        c := testFlag .carry s.f } s.f
      bus := x.busAfterRead s, pc := s.pc + 2, cycles := s.cycles + r8Cost x 8 12 }

/-- R331, R332: RES b,r8 and SET b,r8; on (HL) one read and then one write, also where the bit does not change. -/
def Obligations.ResetAndSetBit : Prop :=
  ∀ (n : Oct) (x : R8),
    ((Form.res n x).Follows [0xCB, 0x80 + 8 * n.code + x.code] fun s =>
      { x.update (x.value s &&& ~~~((1 : Byte) <<< n.code.toNat)) s with
        pc := s.pc + 2, cycles := s.cycles + r8Cost x 8 16 }) ∧
    (Form.set n x).Follows [0xCB, 0xC0 + 8 * n.code + x.code] fun s =>
      { x.update (x.value s ||| ((1 : Byte) <<< n.code.toNat)) s with
        pc := s.pc + 2, cycles := s.cycles + r8Cost x 8 16 }

/-! ## Control transfers -/

/-- R351, R352, R353: JP a16, JP cc,a16 and JP HL. R353 says "Exceptions: none"; that a rejected fetch still raises
BusFault (R143, R402) is log entry 10, DEDUCED. -/
def Obligations.AbsoluteJumps : Prop :=
  (∀ a : Word, (Form.jp a).Follows [0xC3, loByte a, hiByte a] fun s =>
    { s with pc := a, cycles := s.cycles + 16 }) ∧
  (∀ (cc : Cond) (a : Word), (Form.jpCc cc a).Follows [0xC2 + 8 * cc.code, loByte a, hiByte a] fun s =>
    if cc.holds s then { s with pc := a, cycles := s.cycles + 16 }
    else { s with pc := s.pc + 3, cycles := s.cycles + 12 }) ∧
  Form.jpHl.Follows [0xE9] fun s => { s with pc := s.hl, cycles := s.cycles + 4 }

/-- R354, R355: JR e8 and JR cc,e8, relative to the address after the jump, modulo 2^16. -/
def Obligations.RelativeJumps : Prop :=
  (∀ e : Byte, (Form.jr e).Follows [0x18, e] fun s =>
    { s with pc := BitVec.ofInt 16 (s.pc.toNat + 2 + e.toInt), cycles := s.cycles + 12 }) ∧
  ∀ (cc : Cond) (e : Byte), (Form.jrCc cc e).Follows [0x20 + 8 * cc.code, e] fun s =>
    if cc.holds s then { s with pc := BitVec.ofInt 16 (s.pc.toNat + 2 + e.toInt), cycles := s.cycles + 12 }
    else { s with pc := s.pc + 2, cycles := s.cycles + 8 }

/-- R356, R357, R358: CALL a16, CALL cc,a16 and RST t push the address of the following instruction, low byte first at
the lower address; a call that is not taken touches neither memory nor SP. -/
def Obligations.CallsAndRestarts : Prop :=
  (∀ a : Word, (Form.call a).Follows [0xCD, loByte a, hiByte a] fun s =>
    { s with
      sp := s.sp - 2, pc := a, cycles := s.cycles + 24,
      bus := (s.bus.afterWrite (s.sp - 2) (loByte (s.pc + 3))).afterWrite (s.sp - 2 + 1) (hiByte (s.pc + 3)) }) ∧
  (∀ (cc : Cond) (a : Word), (Form.callCc cc a).Follows [0xC4 + 8 * cc.code, loByte a, hiByte a] fun s =>
    if cc.holds s then
      { s with
        sp := s.sp - 2, pc := a, cycles := s.cycles + 24,
        bus := (s.bus.afterWrite (s.sp - 2) (loByte (s.pc + 3))).afterWrite (s.sp - 2 + 1) (hiByte (s.pc + 3)) }
    else { s with pc := s.pc + 3, cycles := s.cycles + 12 }) ∧
  ∀ t : Oct, (Form.rst t).Follows [0xC7 + 8 * t.code] fun s =>
    { s with
      sp := s.sp - 2, pc := BitVec.ofNat 16 (8 * t.code.toNat), cycles := s.cycles + 16,
      bus := (s.bus.afterWrite (s.sp - 2) (loByte (s.pc + 1))).afterWrite (s.sp - 2 + 1) (hiByte (s.pc + 1)) }

/-- R359, R360, R361: RET, RET cc and RETI, which sets IME at once. -/
def Obligations.Returns : Prop :=
  (Form.ret.Follows [0xC9] fun s =>
    { s with
      pc := pairOf (s.bus.peek (s.sp + 1)) (s.bus.peek s.sp), sp := s.sp + 2, cycles := s.cycles + 16,
      bus := (s.bus.afterRead s.sp).afterRead (s.sp + 1) }) ∧
  (∀ cc : Cond, (Form.retCc cc).Follows [0xC0 + 8 * cc.code] fun s =>
    if cc.holds s then
      { s with
        pc := pairOf (s.bus.peek (s.sp + 1)) (s.bus.peek s.sp), sp := s.sp + 2, cycles := s.cycles + 20,
        bus := (s.bus.afterRead s.sp).afterRead (s.sp + 1) }
    else { s with pc := s.pc + 1, cycles := s.cycles + 8 }) ∧
  Form.reti.Follows [0xD9] fun s =>
    { s with
      pc := pairOf (s.bus.peek (s.sp + 1)) (s.bus.peek s.sp), sp := s.sp + 2, cycles := s.cycles + 16,
      bus := (s.bus.afterRead s.sp).afterRead (s.sp + 1), ime := true, imePending := false }

/-! ## CPU control -/

/-- R380 to R384: NOP, HALT, STOP with any second byte, DI at once, and EI, which sets the pending bit alone. R380,
R381, R383 and R384 say "Exceptions: none"; that a rejected fetch still raises BusFault (R143, R402) is log entry 10,
DEDUCED. -/
def Obligations.CpuControlInstructions : Prop :=
  (Form.nop.Follows [0x00] fun s => { s with pc := s.pc + 1, cycles := s.cycles + 4 }) ∧
  (Form.halt.Follows [0x76] fun s => { s with run := .halted, pc := s.pc + 1, cycles := s.cycles + 4 }) ∧
  (∀ n : Byte, (Form.stop n).Follows [0x10, n] fun s =>
    { s with run := .stopped, pc := s.pc + 2, cycles := s.cycles + 4 }) ∧
  (Form.di.Follows [0xF3] fun s =>
    { s with ime := false, imePending := false, pc := s.pc + 1, cycles := s.cycles + 4 }) ∧
  Form.ei.Follows [0xFB] fun s => { s with imePending := true, pc := s.pc + 1, cycles := s.cycles + 4 }

/-! ## Interrupts and the run state -/

/-- R415, R416: `interrupt(v)` is accepted exactly when v is one of the five vectors and IME is 1, in any run state: PC
is pushed low byte first, IME and the pending bit are cleared, the core runs, PC takes the vector, and the entry costs
20. Otherwise it changes nothing. A stack write that the bus rejects raises BusFault with the bus as the accepted write
before it left it (R402); the PC that the fault carries is the model's choice (log entry 9), so it is left open. -/
def Obligations.InterruptEntry : Prop :=
  (∀ (v : Word) (s : State), v ∈ [0x40, 0x48, 0x50, 0x58, 0x60] → s.ime = true →
    s.bus.rejects .write (s.sp - 2) = false → s.bus.rejects .write (s.sp - 2 + 1) = false →
    transact (.interrupt v) s = .next (.accepted,
      { s with
        ime := false, imePending := false, run := .running, sp := s.sp - 2, pc := v, cycles := s.cycles + 20,
        bus := (s.bus.afterWrite (s.sp - 2) (loByte s.pc)).afterWrite (s.sp - 2 + 1) (hiByte s.pc) })) ∧
  (∀ (v : Word) (s : State), v ∉ [0x40, 0x48, 0x50, 0x58, 0x60] ∨ s.ime = false →
    transact (.interrupt v) s = .next (.turnedAway, s)) ∧
  ∀ (v : Word) (s : State), v ∈ [0x40, 0x48, 0x50, 0x58, 0x60] → s.ime = true →
    (s.bus.rejects .write (s.sp - 2) = true →
      ∃ pc0, transact (.interrupt v) s = .fault (.busFault (s.sp - 2) .write pc0 s.bus)) ∧
    (s.bus.rejects .write (s.sp - 2) = false → s.bus.rejects .write (s.sp - 2 + 1) = true →
      ∃ pc0, transact (.interrupt v) s =
        .fault (.busFault (s.sp - 2 + 1) .write pc0 (s.bus.afterWrite (s.sp - 2) (loByte s.pc))))

/-- R410, R412: IME and its pending bit change only at the events of the table of R410: EI, DI, RETI, the end of a step
that began with the pending bit 1 and still has it 1, an accepted interrupt, and reset. -/
def Obligations.ImeChangesOnlyAtItsEvents : Prop :=
  ∀ (x : Transaction) (s t : State) (r : Response), transact x s = .next (r, t) →
    (t.ime, t.imePending) =
      match x with
      | .step =>
        match r, s.run, decode (s.bytesAtPc 3) with
        | .ok _, .running, .instr .di _ => (false, false)
        | .ok _, .running, .instr .reti _ => (true, false)
        | .ok _, .running, .instr i _ =>
          if s.imePending then (true, false) else (s.ime, decide (i = .ei))
        | _, _, _ => (s.ime, s.imePending)
      | .reset _ _ => (false, false)
      | .interrupt _ => if r = .accepted then (false, false) else (s.ime, s.imePending)
      | .getState => (s.ime, s.imePending)
      | .resume => (s.ime, s.imePending)

/-- R420: the only transitions of the run state. -/
def Obligations.RunStateChangesOnlyAtItsEvents : Prop :=
  ∀ (x : Transaction) (s t : State) (r : Response), transact x s = .next (r, t) →
    t.run =
      match x with
      | .step =>
        match r, s.run, decode (s.bytesAtPc 3) with
        | .ok _, .running, .instr .halt _ => .halted
        | .ok _, .running, .instr (.stop _) _ => .stopped
        | _, _, _ => s.run
      | .reset _ _ => .running
      | .interrupt _ => if r = .accepted then .running else s.run
      | .getState => s.run
      | .resume => .running

/-- R47, R421, R424: `getState()` reports every field of R30 and changes nothing; `resume()` wakes a Halted or Stopped
core and changes nothing else, and does nothing to a running one. -/
def Obligations.GetStateAndResume : Prop :=
  (∀ s : State, transact .getState s = .next (.snapshot
    { a := s.a, f := s.f, b := s.b, c := s.c, d := s.d, e := s.e, h := s.h, l := s.l, sp := s.sp, pc := s.pc,
      cycles := s.cycles, run := s.run, ime := s.ime, imePending := s.imePending }, s)) ∧
  (∀ s : State, s.run ≠ .running → transact .resume s = .next (.done, { s with run := .running })) ∧
  ∀ s : State, s.run = .running → transact .resume s = .next (.done, s)
end

