-- ==== Sys2Proof/Laws/Words.lean ====
section
/-! SUPPORT. A word and its two bytes. -/

namespace Sys2Proof

@[simp] theorem pairOf_hi_lo (w : Word) : pairOf (hiByte w) (loByte w) = w := by
  apply BitVec.eq_of_getLsbD_eq
  intro i hi
  simp only [pairOf, hiByte, loByte, BitVec.getLsbD_append, BitVec.getLsbD_extractLsb']
  by_cases h : i < 8
  · simp [h]
  · have e : 8 + (i - 8) = i := by omega
    have e' : i - 8 < 8 := by omega
    simp [h, e, e']

@[simp] theorem hiByte_pairOf (hi lo : Byte) : hiByte (pairOf hi lo) = hi := by
  apply BitVec.eq_of_getLsbD_eq
  intro i h
  simp only [pairOf, hiByte, BitVec.getLsbD_append, BitVec.getLsbD_extractLsb']
  simp [h]

@[simp] theorem loByte_pairOf (hi lo : Byte) : loByte (pairOf hi lo) = lo := by
  apply BitVec.eq_of_getLsbD_eq
  intro i h
  simp only [pairOf, loByte, BitVec.getLsbD_append, BitVec.getLsbD_extractLsb']
  simp [h]

theorem pairOf_toNat (hi lo : Byte) : (pairOf hi lo).toNat = hi.toNat * 256 + lo.toNat := by
  unfold pairOf
  rw [BitVec.toNat_append, ← Nat.shiftLeft_add_eq_or_of_lt lo.isLt, Nat.shiftLeft_eq]

theorem hiByte_eq (w : Word) : hiByte w = BitVec.ofNat 8 (w.toNat / 256) := by
  apply BitVec.eq_of_toNat_eq
  simp [hiByte, Nat.shiftRight_eq_div_pow]

theorem loByte_eq (w : Word) : loByte w = BitVec.ofNat 8 (w.toNat % 256) := by
  apply BitVec.eq_of_toNat_eq
  simp [loByte]

/-- A property of bytes holds if it holds of each of the 256 numerals. -/
theorem byte_cases {P : Byte → Prop} (h : ∀ n < 256, P (BitVec.ofNat 8 n)) (b : Byte) : P b := by
  have hb := h b.toNat b.isLt
  rwa [BitVec.ofNat_toNat, BitVec.setWidth_eq] at hb

/-- The address after another one is another one. -/
@[simp] theorem word_add_one_ne (a : Word) : a + 1 ≠ a := by
  intro h
  have := congrArg BitVec.toNat h
  simp [BitVec.toNat_add] at this
  omega

end Sys2Proof
end

