-- ==== Sys2Proof/Laws/Exec.lean ====
section
/-! SUPPORT. What `exec` does, form by form: one equation takes every instruction's meaning to the shared operation of
its form, so that no later proof unfolds `exec` or a meaning again. -/

namespace Sys2Proof.Machine

/-- The shared operation of each form. -/
def Form.run (o : Form) (s : State) : Result State :=
  match o with
  | .ldRegReg rd rs => opLdRegReg rd rs s
  | .ldRegMem rd => opLdRegMem rd s
  | .ldMemReg rs => opLdMemReg rs s
  | .ldRegImm rd n => opLdRegImm rd n s
  | .ldMemImm n => opLdMemImm n s
  | .ldAPtr p => opLdAPtr p s
  | .ldPtrA p => opLdPtrA p s
  | .ldAHli => opLdAHli s
  | .ldAHld => opLdAHld s
  | .ldHliA => opLdHliA s
  | .ldHldA => opLdHldA s
  | .ldAAbs a => opLdAAbs a s
  | .ldAbsA a => opLdAbsA a s
  | .ldhAImm n => opLdhAImm n s
  | .ldhImmA n => opLdhImmA n s
  | .ldhAC => opLdhAC s
  | .ldhCA => opLdhCA s
  | .ldPairImm p n => opLdPairImm p n s
  | .ldAbsSp a => opLdAbsSp a s
  | .ldSpHl => opLdSpHl s
  | .ldHlSp e => opLdHlSp e s
  | .push p => opPush p s
  | .pop p => opPop p s
  | .alu op x => opAlu op x s
  | .aluImm op n => opAluImm op n s
  | .incR8 x => opIncR8 x s
  | .decR8 x => opDecR8 x s
  | .daa => opDaa s
  | .cpl => opCpl s
  | .scf => opScf s
  | .ccf => opCcf s
  | .addHl p => opAddHl p s
  | .incPair p => opIncPair p s
  | .decPair p => opDecPair p s
  | .addSp e => opAddSp e s
  | .rlca => opRlca s
  | .rrca => opRrca s
  | .rla => opRla s
  | .rra => opRra s
  | .rot op x => opRot op x s
  | .bit n x => opBit n x s
  | .res n x => opRes n x s
  | .set n x => opSet n x s
  | .jp a => opJp a s
  | .jpCc cc a => opJpCc cc a s
  | .jpHl => opJpHl s
  | .jr e => opJr e s
  | .jrCc cc e => opJrCc cc e s
  | .call a => opCall a s
  | .callCc cc a => opCallCc cc a s
  | .rst t => opRst t s
  | .ret => opRet s
  | .retCc cc => opRetCc cc s
  | .reti => opReti s
  | .nop => opNop s
  | .halt => opHalt s
  | .stop n => opStop n s
  | .di => opDi s
  | .ei => opEi s

theorem exec_instrLdRegReg (rd rs : Reg) (s : State) : exec (instrLdRegReg rd rs) s = opLdRegReg rd rs s := by
  cases rd <;> cases rs <;> rfl

theorem exec_instrAlu (op : AluOp) (x : R8) (s : State) : exec (instrAlu op x) s = opAlu op x s := by
  rcases x with r | _ <;> cases op <;> first | rfl | (cases r <;> rfl)

theorem exec_instrRot (op : RotOp) (x : R8) (s : State) : exec (instrRot op x) s = opRot op x s := by
  rcases x with r | _ <;> cases op <;> first | rfl | (cases r <;> rfl)

theorem exec_instrBit (n : Oct) (x : R8) (s : State) : exec (instrBit n x) s = opBit n x s := by
  rcases x with r | _ <;> cases n <;> first | rfl | (cases r <;> rfl)

theorem exec_instrRes (n : Oct) (x : R8) (s : State) : exec (instrRes n x) s = opRes n x s := by
  rcases x with r | _ <;> cases n <;> first | rfl | (cases r <;> rfl)

theorem exec_instrSet (n : Oct) (x : R8) (s : State) : exec (instrSet n x) s = opSet n x s := by
  rcases x with r | _ <;> cases n <;> first | rfl | (cases r <;> rfl)

/-- The meaning of every instruction is the shared operation of its form. -/
theorem exec_form (o : Form) (s : State) : exec o.instr s = Form.run o s := by
  cases o with
  | ldRegReg rd rs => exact exec_instrLdRegReg rd rs s
  | alu op x => exact exec_instrAlu op x s
  | rot op x => exact exec_instrRot op x s
  | bit n x => exact exec_instrBit n x s
  | res n x => exact exec_instrRes n x s
  | set n x => exact exec_instrSet n x s
  | incR8 x => rcases x with r | _ <;> first | rfl | (cases r <;> rfl)
  | decR8 x => rcases x with r | _ <;> first | rfl | (cases r <;> rfl)
  | ldRegMem r | ldMemReg r | ldRegImm r _ | ldAPtr r | ldPtrA r | ldPairImm r _ | push r | pop r | aluImm r _
  | addHl r | incPair r | decPair r | jpCc r _ | jrCc r _ | callCc r _ | rst r | retCc r => cases r <;> rfl
  | _ => rfl

theorem form_instr_word (f : Word → Instr) (w : Word)
    (h : (f w).form.instr = f (pairOf (hiByte w) (loByte w))) : (f w).form.instr = f w := by
  rw [h, pairOf_hi_lo]

/-- Every instruction is a form: no row of the table lies outside the forms the claims range over. -/
theorem form_instr (i : Instr) : i.form.instr = i := by
  cases i <;> first | rfl | exact form_instr_word _ _ rfl

/-- The meaning of an instruction, by its form. -/
theorem exec_eq_run (i : Instr) (s : State) : exec i s = Form.run i.form s := by
  rw [← exec_form, form_instr]

end Sys2Proof.Machine
end

