-- ==== Sys2Proof/Laws/Flags.lean ====
section
/-! SUPPORT. The flag primitives: each touches its own bit, and a write of the flags keeps the low nibble of F. -/

namespace Sys2Proof.Machine

/-- The bit number of each flag. -/
def Flag.bit : Flag → Nat
  | .zero => 7
  | .subtract => 6
  | .halfCarry => 5
  | .carry => 4

theorem testFlag_eq (k : Flag) (f : Byte) : testFlag k f = f.getLsbD k.bit := by
  cases k <;> revert f <;> decide

theorem assignFlag_getLsbD (k : Flag) (v : Bool) (f : Byte) (i : Nat) :
    (assignFlag k v f).getLsbD i = if i = k.bit then v else f.getLsbD i := by
  by_cases hi : i < 8
  · cases k <;> cases v <;> interval_cases i <;>
      simp [assignFlag, setFlag, clearFlag, Flag.mask, Flag.bit]
  · have h : i ≠ k.bit := by cases k <;> simp [Flag.bit] <;> omega
    rw [if_neg h, BitVec.getLsbD_of_ge _ _ (by omega), BitVec.getLsbD_of_ge _ _ (by omega)]

theorem Flag.bit_inj {k k' : Flag} : k.bit = k'.bit ↔ k = k' := by
  cases k <;> cases k' <;> simp [Flag.bit]

/-- A flag read after a flag was written. -/
theorem testFlag_assignFlag (k k' : Flag) (v : Bool) (f : Byte) :
    testFlag k (assignFlag k' v f) = if k = k' then v else testFlag k f := by
  rw [testFlag_eq, testFlag_eq, assignFlag_getLsbD]
  simp only [Flag.bit_inj]

/-- Writing a flag keeps the low nibble of F. -/
theorem assignFlag_lowNibble (k : Flag) (v : Bool) (f : Byte) : assignFlag k v f &&& 0x0F = f &&& 0x0F := by
  revert f
  cases k <;> cases v <;> decide

/-- Writing the flags keeps the low nibble of F. -/
theorem writeFlags_lowNibble (v : Flags) (f : Byte) : writeFlags v f &&& 0x0F = f &&& 0x0F := by
  simp only [writeFlags, assignFlag_lowNibble]

/-- The flags read back as they were written. -/
@[simp] theorem readFlags_writeFlags (v : Flags) (f : Byte) : readFlags (writeFlags v f) = v := by
  simp [readFlags, writeFlags, testFlag_assignFlag]

/-- Each flag, by name, of the four written. -/
theorem testFlag_writeFlags (k : Flag) (v : Flags) (f : Byte) : testFlag k (writeFlags v f) =
    match k with
    | .zero => v.z
    | .subtract => v.n
    | .halfCarry => v.h
    | .carry => v.c := by
  cases k <;> simp [writeFlags, testFlag_assignFlag]

end Sys2Proof.Machine
end

