-- ==== Sys2Proof/Laws/Memory.lean ====
section
/-! SUPPORT. The memory behind the bus: a read after a write, and the canonical form that every operation keeps. -/

namespace Sys2Proof.Machine

variable {a c : Nat} {v : Byte} {l : List Host.Cell}

theorem lookupCell_insertCell : lookupCell c (insertCell a v l) = if a = c then some v else lookupCell c l := by
  induction l with
  | nil => simp [insertCell, lookupCell]
  | cons x rest ih =>
    unfold insertCell
    split
    · simp [lookupCell]
    · split
      · next h => subst h; simp only [lookupCell]; split <;> simp
      · next h => simp only [lookupCell, ih]; grind

theorem lookupCell_eraseCell : lookupCell c (eraseCell a l) = if a = c then none else lookupCell c l := by
  induction l with
  | nil => simp [eraseCell, lookupCell]
  | cons x rest ih =>
    unfold eraseCell
    split
    · next h => subst h; simp only [lookupCell, ih]; split <;> simp
    · simp only [lookupCell, ih]; grind

/-- A read after a write gives the value written at its address and the old byte everywhere else. -/
theorem Memory.read_write (m : Memory) (a b : Word) (v : Byte) :
    (m.write a v).read b = if b = a then v else m.read b := by
  have e : a.toNat = b.toNat ↔ b = a := ⟨fun h => (BitVec.eq_of_toNat_eq h).symm, fun h => by rw [h]⟩
  unfold Memory.read Memory.write Memory.unlisted
  by_cases h : v = m.openBus <;> by_cases hb : b = a <;>
    simp [h, lookupCell_eraseCell, lookupCell_insertCell, e, hb]

@[simp] theorem Memory.write_openBus (m : Memory) (a : Word) (v : Byte) : (m.write a v).openBus = m.openBus := rfl

theorem risingCells_iff : risingCells l = true ↔ l.Pairwise fun x y => x.1 < y.1 := by
  induction l with
  | nil => simp [risingCells]
  | cons x rest ih =>
    unfold risingCells
    rw [Bool.and_eq_true, ih, List.pairwise_cons]
    cases rest with
    | nil => simp
    | cons y rest =>
      simp only [decide_eq_true_eq, List.pairwise_cons, List.mem_cons, forall_eq_or_imp]
      constructor
      · rintro ⟨h, h1, h2⟩
        exact ⟨⟨h, fun z hz => lt_trans h (h1 z hz)⟩, h1, h2⟩
      · rintro ⟨⟨h, _⟩, h1, h2⟩
        exact ⟨h, h1, h2⟩

theorem mem_insertCell {x : Host.Cell} (h : x ∈ insertCell a v l) : x = (a, v) ∨ x ∈ l := by
  induction l with
  | nil => simpa [insertCell] using h
  | cons y rest ih =>
    unfold insertCell at h
    split at h
    · simpa using h
    · split at h
      · simp only [List.mem_cons] at h ⊢; tauto
      · simp only [List.mem_cons] at h ⊢
        rcases h with h | h
        · exact .inr (.inl h)
        · rcases ih h with h | h
          · exact .inl h
          · exact .inr (.inr h)

theorem mem_eraseCell {x : Host.Cell} (h : x ∈ eraseCell a l) : x ∈ l := by
  induction l with
  | nil => exact h
  | cons y rest ih =>
    unfold eraseCell at h
    split at h
    · exact List.mem_cons_of_mem _ (ih h)
    · simp only [List.mem_cons] at h ⊢
      exact h.imp id ih

theorem pairwise_insertCell (h : l.Pairwise fun x y => x.1 < y.1) :
    (insertCell a v l).Pairwise fun x y => x.1 < y.1 := by
  induction l with
  | nil => simp [insertCell]
  | cons x rest ih =>
    rw [List.pairwise_cons] at h
    unfold insertCell
    split
    · next hlt =>
      refine List.pairwise_cons.2 ⟨fun y hy => ?_, List.pairwise_cons.2 h⟩
      rcases List.mem_cons.1 hy with rfl | hy
      · exact hlt
      · exact lt_trans hlt (h.1 y hy)
    · split
      · next heq => exact List.pairwise_cons.2 ⟨fun y hy => heq ▸ h.1 y hy, h.2⟩
      · next hlt hne =>
        refine List.pairwise_cons.2 ⟨fun y hy => ?_, ih h.2⟩
        rcases mem_insertCell hy with rfl | hy
        · show x.1 < a; omega
        · exact h.1 y hy

theorem pairwise_eraseCell (h : l.Pairwise fun x y => x.1 < y.1) :
    (eraseCell a l).Pairwise fun x y => x.1 < y.1 := by
  induction l with
  | nil => exact h
  | cons x rest ih =>
    rw [List.pairwise_cons] at h
    unfold eraseCell
    split
    · exact ih h.2
    · exact List.pairwise_cons.2 ⟨fun y hy => h.1 y (mem_eraseCell hy), ih h.2⟩

/-- What the canonical form says. -/
theorem Memory.wf_iff (m : Memory) : m.wf = true ↔
    (m.cells.Pairwise fun x y => x.1 < y.1) ∧ ∀ x ∈ m.cells, x.1 < 65536 ∧ x.2 ≠ m.unlisted := by
  simp [Memory.wf, risingCells_iff, List.all_eq_true]

/-- A write keeps the canonical form. -/
theorem Memory.wf_write {m : Memory} (h : m.wf = true) (a : Word) (v : Byte) : (m.write a v).wf = true := by
  rw [Memory.wf_iff] at h ⊢
  unfold Memory.write
  split
  · exact ⟨pairwise_eraseCell h.1, fun x hx => h.2 x (mem_eraseCell hx)⟩
  · next hv =>
    refine ⟨pairwise_insertCell h.1, fun x hx => ?_⟩
    rcases mem_insertCell hx with rfl | hx
    · exact ⟨a.isLt, hv⟩
    · exact h.2 x hx

/-- Placing a program keeps the canonical form. -/
theorem wf_placeBytes {m : Memory} (h : m.wf = true) (a : Word) (bs : List Byte) : (placeBytes a bs m).wf = true := by
  induction bs generalizing m a with
  | nil => exact h
  | cons v rest ih => exact ih (Memory.wf_write h a v) (a + 1)

/-- A bus with a program placed keeps the canonical form. -/
theorem Bus.wf_place {b : Bus} (h : b.mem.wf = true) (a : Word) (bs : List Byte) : (b.place a bs).mem.wf = true :=
  wf_placeBytes h a bs

end Sys2Proof.Machine
end

