-- ==== Sys2Proof/Laws/Numbers.lean ====
section
/-! SUPPORT. The masks, the displacements and the zero tests of the flag rules as integer arithmetic. -/

namespace Sys2Proof.Machine

theorem and_0F_toNat (v : Byte) : (v &&& 0x0F).toNat = v.toNat % 16 := by
  rw [BitVec.toNat_and]
  exact Nat.and_two_pow_sub_one_eq_mod _ 4

theorem and_000F_toNat (w : Word) : (w &&& 0x0F).toNat = w.toNat % 16 := by
  rw [BitVec.toNat_and]
  exact Nat.and_two_pow_sub_one_eq_mod _ 4

theorem and_00FF_toNat (w : Word) : (w &&& 0xFF).toNat = w.toNat % 256 := by
  rw [BitVec.toNat_and]
  exact Nat.and_two_pow_sub_one_eq_mod _ 8

theorem and_0FFF_toNat (w : Word) : (w &&& 0x0FFF).toNat = w.toNat % 4096 := by
  rw [BitVec.toNat_and]
  exact Nat.and_two_pow_sub_one_eq_mod _ 12

/-- A sign-extended displacement is the displacement. -/
theorem sext16_toInt (e : Byte) : (sext16 e).toInt = e.toInt := by
  unfold sext16
  rw [BitVec.toInt_signExtend_of_le]
  decide

/-- An address and a displacement, added as integers and narrowed. -/
theorem ofInt_add_disp (w : Word) (e : Byte) : BitVec.ofInt 16 (w.toNat + e.toInt) = w + sext16 e := by
  rw [← sext16_toInt]
  apply BitVec.eq_of_toInt_eq
  rw [BitVec.toInt_ofInt, BitVec.toInt_add, BitVec.toInt_eq_toNat_bmod w, Int.bmod_add_bmod]

/-- The test for zero of a sum narrowed to a byte. -/
theorem ofNat_beq_zero (t : Nat) : (BitVec.ofNat 8 t == 0) = decide (t % 256 = 0) := by
  rw [Bool.eq_iff_iff, beq_iff_eq, decide_eq_true_iff, ← BitVec.toNat_inj]
  simp

/-- The test for zero of a difference narrowed to a byte. -/
theorem ofInt_beq_zero (t : Int) : (BitVec.ofInt 8 t == 0) = decide (t % 256 = 0) := by
  rw [Bool.eq_iff_iff, beq_iff_eq, decide_eq_true_iff, ← BitVec.toNat_inj, BitVec.toNat_ofInt]
  simp
  omega

end Sys2Proof.Machine
end

