-- ==== Sys2Proof/Laws/State.lean ====
section
/-! SUPPORT. One lemma for each field under each named update of the state, so that no later proof unfolds an update. -/

namespace Sys2Proof.Machine

variable (s : State) (r r' : Reg) (v : Byte) (w len : Word) (n : Count) (fl : Flags) (p : Pair) (q : StackPair)
  (x : Bool)

/-! ## State.setReg -/

@[simp] theorem setReg_f : (s.setReg r v).f = s.f := by cases r <;> rfl
@[simp] theorem setReg_sp : (s.setReg r v).sp = s.sp := by cases r <;> rfl
@[simp] theorem setReg_pc : (s.setReg r v).pc = s.pc := by cases r <;> rfl
@[simp] theorem setReg_cycles : (s.setReg r v).cycles = s.cycles := by cases r <;> rfl
@[simp] theorem setReg_run : (s.setReg r v).run = s.run := by cases r <;> rfl
@[simp] theorem setReg_ime : (s.setReg r v).ime = s.ime := by cases r <;> rfl
@[simp] theorem setReg_imePending : (s.setReg r v).imePending = s.imePending := by cases r <;> rfl
@[simp] theorem setReg_bus : (s.setReg r v).bus = s.bus := by cases r <;> rfl
@[simp] theorem setReg_flags : (s.setReg r v).flags = s.flags := by cases r <;> rfl
theorem setReg_reg : (s.setReg r v).reg r' = if r' = r then v else s.reg r' := by cases r <;> cases r' <;> rfl
@[simp] theorem setReg_reg_self : (s.setReg r v).reg r = v := by cases r <;> rfl
@[simp] theorem setReg_a_eq : s.setReg .a v = { s with a := v } := rfl
@[simp] theorem setReg_b_eq : s.setReg .b v = { s with b := v } := rfl
@[simp] theorem setReg_c_eq : s.setReg .c v = { s with c := v } := rfl
@[simp] theorem setReg_d_eq : s.setReg .d v = { s with d := v } := rfl
@[simp] theorem setReg_e_eq : s.setReg .e v = { s with e := v } := rfl
@[simp] theorem setReg_h_eq : s.setReg .h v = { s with h := v } := rfl
@[simp] theorem setReg_l_eq : s.setReg .l v = { s with l := v } := rfl

/-! ## State.setPair -/

@[simp] theorem setPair_f : (s.setPair p w).f = s.f := by cases p <;> rfl
@[simp] theorem setPair_pc : (s.setPair p w).pc = s.pc := by cases p <;> rfl
@[simp] theorem setPair_cycles : (s.setPair p w).cycles = s.cycles := by cases p <;> rfl
@[simp] theorem setPair_run : (s.setPair p w).run = s.run := by cases p <;> rfl
@[simp] theorem setPair_ime : (s.setPair p w).ime = s.ime := by cases p <;> rfl
@[simp] theorem setPair_imePending : (s.setPair p w).imePending = s.imePending := by cases p <;> rfl
@[simp] theorem setPair_bus : (s.setPair p w).bus = s.bus := by cases p <;> rfl
@[simp] theorem setPair_flags : (s.setPair p w).flags = s.flags := by cases p <;> rfl
@[simp] theorem setPair_sp_eq : s.setPair .sp w = { s with sp := w } := rfl
@[simp] theorem setPair_hl_eq : s.setPair .hl w = { s with h := hiByte w, l := loByte w } := rfl
@[simp] theorem setPair_bc_eq : s.setPair .bc w = { s with b := hiByte w, c := loByte w } := rfl
@[simp] theorem setPair_de_eq : s.setPair .de w = { s with d := hiByte w, e := loByte w } := rfl

/-! ## State.setStackPair -/

@[simp] theorem setStackPair_sp : (s.setStackPair q w).sp = s.sp := by cases q <;> rfl
@[simp] theorem setStackPair_pc : (s.setStackPair q w).pc = s.pc := by cases q <;> rfl
@[simp] theorem setStackPair_cycles : (s.setStackPair q w).cycles = s.cycles := by cases q <;> rfl
@[simp] theorem setStackPair_run : (s.setStackPair q w).run = s.run := by cases q <;> rfl
@[simp] theorem setStackPair_ime : (s.setStackPair q w).ime = s.ime := by cases q <;> rfl
@[simp] theorem setStackPair_imePending : (s.setStackPair q w).imePending = s.imePending := by cases q <;> rfl
@[simp] theorem setStackPair_bus : (s.setStackPair q w).bus = s.bus := by cases q <;> rfl

/-! ## State.setFlags -/

@[simp] theorem setFlags_a : (s.setFlags fl).a = s.a := rfl
@[simp] theorem setFlags_f : (s.setFlags fl).f = writeFlags fl s.f := rfl
@[simp] theorem setFlags_b : (s.setFlags fl).b = s.b := rfl
@[simp] theorem setFlags_c : (s.setFlags fl).c = s.c := rfl
@[simp] theorem setFlags_d : (s.setFlags fl).d = s.d := rfl
@[simp] theorem setFlags_e : (s.setFlags fl).e = s.e := rfl
@[simp] theorem setFlags_h : (s.setFlags fl).h = s.h := rfl
@[simp] theorem setFlags_l : (s.setFlags fl).l = s.l := rfl
@[simp] theorem setFlags_sp : (s.setFlags fl).sp = s.sp := rfl
@[simp] theorem setFlags_pc : (s.setFlags fl).pc = s.pc := rfl
@[simp] theorem setFlags_cycles : (s.setFlags fl).cycles = s.cycles := rfl
@[simp] theorem setFlags_run : (s.setFlags fl).run = s.run := rfl
@[simp] theorem setFlags_ime : (s.setFlags fl).ime = s.ime := rfl
@[simp] theorem setFlags_imePending : (s.setFlags fl).imePending = s.imePending := rfl
@[simp] theorem setFlags_bus : (s.setFlags fl).bus = s.bus := rfl
@[simp] theorem setFlags_reg : (s.setFlags fl).reg r = s.reg r := by cases r <;> rfl

/-! ## retire -/

@[simp] theorem retire_a : (retire len n s).a = s.a := rfl
@[simp] theorem retire_f : (retire len n s).f = s.f := rfl
@[simp] theorem retire_b : (retire len n s).b = s.b := rfl
@[simp] theorem retire_c : (retire len n s).c = s.c := rfl
@[simp] theorem retire_d : (retire len n s).d = s.d := rfl
@[simp] theorem retire_e : (retire len n s).e = s.e := rfl
@[simp] theorem retire_h : (retire len n s).h = s.h := rfl
@[simp] theorem retire_l : (retire len n s).l = s.l := rfl
@[simp] theorem retire_sp : (retire len n s).sp = s.sp := rfl
@[simp] theorem retire_pc : (retire len n s).pc = s.pc + len := rfl
@[simp] theorem retire_cycles : (retire len n s).cycles = s.cycles + n := rfl
@[simp] theorem retire_run : (retire len n s).run = s.run := rfl
@[simp] theorem retire_ime : (retire len n s).ime = s.ime := rfl
@[simp] theorem retire_imePending : (retire len n s).imePending = s.imePending := rfl
@[simp] theorem retire_bus : (retire len n s).bus = s.bus := rfl
@[simp] theorem retire_reg : (retire len n s).reg r = s.reg r := by cases r <;> rfl
@[simp] theorem retire_flags : (retire len n s).flags = s.flags := rfl

/-! ## jumpTo -/

@[simp] theorem jumpTo_a : (jumpTo w n s).a = s.a := rfl
@[simp] theorem jumpTo_f : (jumpTo w n s).f = s.f := rfl
@[simp] theorem jumpTo_b : (jumpTo w n s).b = s.b := rfl
@[simp] theorem jumpTo_c : (jumpTo w n s).c = s.c := rfl
@[simp] theorem jumpTo_d : (jumpTo w n s).d = s.d := rfl
@[simp] theorem jumpTo_e : (jumpTo w n s).e = s.e := rfl
@[simp] theorem jumpTo_h : (jumpTo w n s).h = s.h := rfl
@[simp] theorem jumpTo_l : (jumpTo w n s).l = s.l := rfl
@[simp] theorem jumpTo_sp : (jumpTo w n s).sp = s.sp := rfl
@[simp] theorem jumpTo_pc : (jumpTo w n s).pc = w := rfl
@[simp] theorem jumpTo_cycles : (jumpTo w n s).cycles = s.cycles + n := rfl
@[simp] theorem jumpTo_run : (jumpTo w n s).run = s.run := rfl
@[simp] theorem jumpTo_ime : (jumpTo w n s).ime = s.ime := rfl
@[simp] theorem jumpTo_imePending : (jumpTo w n s).imePending = s.imePending := rfl
@[simp] theorem jumpTo_bus : (jumpTo w n s).bus = s.bus := rfl
@[simp] theorem jumpTo_reg : (jumpTo w n s).reg r = s.reg r := by cases r <;> rfl
@[simp] theorem jumpTo_flags : (jumpTo w n s).flags = s.flags := rfl

/-! ## promote -/

@[simp] theorem promote_a : (promote x s).a = s.a := by unfold promote; split <;> rfl
@[simp] theorem promote_f : (promote x s).f = s.f := by unfold promote; split <;> rfl
@[simp] theorem promote_b : (promote x s).b = s.b := by unfold promote; split <;> rfl
@[simp] theorem promote_c : (promote x s).c = s.c := by unfold promote; split <;> rfl
@[simp] theorem promote_d : (promote x s).d = s.d := by unfold promote; split <;> rfl
@[simp] theorem promote_e : (promote x s).e = s.e := by unfold promote; split <;> rfl
@[simp] theorem promote_h : (promote x s).h = s.h := by unfold promote; split <;> rfl
@[simp] theorem promote_l : (promote x s).l = s.l := by unfold promote; split <;> rfl
@[simp] theorem promote_sp : (promote x s).sp = s.sp := by unfold promote; split <;> rfl
@[simp] theorem promote_pc : (promote x s).pc = s.pc := by unfold promote; split <;> rfl
@[simp] theorem promote_cycles : (promote x s).cycles = s.cycles := by unfold promote; split <;> rfl
@[simp] theorem promote_run : (promote x s).run = s.run := by unfold promote; split <;> rfl
@[simp] theorem promote_bus : (promote x s).bus = s.bus := by unfold promote; split <;> rfl
@[simp] theorem promote_reg : (promote x s).reg r = s.reg r := by cases r <;> simp [State.reg]
theorem promote_ime : (promote x s).ime = (s.ime || (x && s.imePending)) := by
  cases x <;> cases h : s.imePending <;> simp [promote, h]
theorem promote_imePending : (promote x s).imePending = (s.imePending && !x) := by
  cases x <;> cases h : s.imePending <;> simp [promote, h]

/-! ## idleTick -/

@[simp] theorem idleTick_a : (idleTick s).a = s.a := rfl
@[simp] theorem idleTick_f : (idleTick s).f = s.f := rfl
@[simp] theorem idleTick_b : (idleTick s).b = s.b := rfl
@[simp] theorem idleTick_c : (idleTick s).c = s.c := rfl
@[simp] theorem idleTick_d : (idleTick s).d = s.d := rfl
@[simp] theorem idleTick_e : (idleTick s).e = s.e := rfl
@[simp] theorem idleTick_h : (idleTick s).h = s.h := rfl
@[simp] theorem idleTick_l : (idleTick s).l = s.l := rfl
@[simp] theorem idleTick_sp : (idleTick s).sp = s.sp := rfl
@[simp] theorem idleTick_pc : (idleTick s).pc = s.pc := rfl
@[simp] theorem idleTick_cycles : (idleTick s).cycles = s.cycles + Config.idleTickCycles := rfl
@[simp] theorem idleTick_run : (idleTick s).run = s.run := rfl
@[simp] theorem idleTick_ime : (idleTick s).ime = s.ime := rfl
@[simp] theorem idleTick_imePending : (idleTick s).imePending = s.imePending := rfl
@[simp] theorem idleTick_bus : (idleTick s).bus = s.bus := rfl

end Sys2Proof.Machine
end

