-- ==== Sys2Proof/Laws/Ops.lean ====
section
/-! SUPPORT. What each shared operation over the bus, the stack and the operands can do, said once: which state it
reaches when the bus accepts its accesses, and which BusFault it raises otherwise. -/

namespace Sys2Proof.Machine

/-! ## Sequencing -/

section
variable {α β : Type} (k : α → Result β)

@[simp] theorem andThen_next (v : α) : andThen (.next v) k = k v := rfl
@[simp] theorem andThen_fault (r : Fault) : andThen (.fault r) k = .fault r := rfl
@[simp] theorem andThen_refused (r : Refusal) : andThen (.refused r) k = .refused r := rfl

/-- An answer of a sequence is an answer of its second operation on an answer of its first. -/
theorem andThen_eq_next {x : Result α} {t : β} : andThen x k = .next t ↔ ∃ v, x = .next v ∧ k v = .next t := by
  cases x <;> simp

end

/-! ## The bus -/

section
variable (b : Bus) (a c : Word) (v : Byte) (k : Access)

@[simp] theorem afterRead_unmapped : (b.afterRead a).unmapped k c = b.unmapped k c := rfl
@[simp] theorem afterRead_rejects : (b.afterRead a).rejects k c = b.rejects k c := rfl
@[simp] theorem afterRead_peek : (b.afterRead a).peek c = b.peek c := rfl
@[simp] theorem afterRead_mem : (b.afterRead a).mem = b.mem := rfl
@[simp] theorem afterRead_events : (b.afterRead a).events = b.events ++ [.read a] := rfl
@[simp] theorem afterRead_holes : (b.afterRead a).holes = b.holes := rfl
@[simp] theorem afterRead_faultEnabled : (b.afterRead a).faultEnabled = b.faultEnabled := rfl
@[simp] theorem afterWrite_unmapped : (b.afterWrite a v).unmapped k c = b.unmapped k c := rfl
@[simp] theorem afterWrite_rejects : (b.afterWrite a v).rejects k c = b.rejects k c := rfl
@[simp] theorem afterWrite_events : (b.afterWrite a v).events = b.events ++ [.write a v] := rfl
@[simp] theorem afterWrite_holes : (b.afterWrite a v).holes = b.holes := rfl
@[simp] theorem afterWrite_faultEnabled : (b.afterWrite a v).faultEnabled = b.faultEnabled := rfl

@[simp] theorem rejectsCall_read : b.rejectsCall (.read a) = b.rejects .read a := rfl
@[simp] theorem rejectsCall_write : b.rejectsCall (.write a v) = b.rejects .write a := rfl
@[simp] theorem afterCalls_nil : b.afterCalls [] = b := rfl
@[simp] theorem afterCalls_cons (e : BusEvent) (l : List BusEvent) :
    b.afterCalls (e :: l) = (b.afterCall e).afterCalls l := rfl
@[simp] theorem afterCall_read : b.afterCall (.read a) = b.afterRead a := rfl
@[simp] theorem afterCall_write : b.afterCall (.write a v) = b.afterWrite a v := rfl

theorem afterCalls_append (l l' : List BusEvent) : b.afterCalls (l ++ l') = (b.afterCalls l).afterCalls l' :=
  List.foldl_append ..

/-- A call changes nothing that the bus decides a rejection by. -/
@[simp] theorem afterCall_rejectsCall (e e' : BusEvent) : (b.afterCall e).rejectsCall e' = b.rejectsCall e' := by
  cases e <;> rfl

@[simp] theorem afterCalls_rejectsCall (l : List BusEvent) (e : BusEvent) :
    (b.afterCalls l).rejectsCall e = b.rejectsCall e := by
  induction l generalizing b with
  | nil => rfl
  | cons x l ih => rw [afterCalls_cons, ih, afterCall_rejectsCall]

@[simp] theorem afterCalls_events (l : List BusEvent) : (b.afterCalls l).events = b.events ++ l := by
  induction l generalizing b with
  | nil => simp
  | cons e l ih =>
    rw [afterCalls_cons, ih]
    cases e <;> simp

@[simp] theorem afterWrite_openBus : (b.afterWrite a v).mem.openBus = b.mem.openBus := by
  unfold Bus.afterWrite; dsimp only; split <;> simp

/-- A byte reads as it was after a write elsewhere. -/
theorem peek_afterWrite_of_ne (h : c ≠ a) : (b.afterWrite a v).peek c = b.peek c := by
  unfold Bus.peek
  rw [afterWrite_unmapped, afterWrite_openBus]
  unfold Bus.afterWrite
  dsimp only
  split
  · rfl
  · split
    · rfl
    · rw [Memory.read_write, if_neg h]

/-- The byte written reads back where the address is mapped for reads and writes. -/
theorem peek_afterWrite_self (hr : b.unmapped .read a = false) (hw : b.unmapped .write a = false) :
    (b.afterWrite a v).peek a = v := by
  unfold Bus.peek
  rw [afterWrite_unmapped, hr]
  simp [Bus.afterWrite, hw, Memory.read_write]

theorem afterWrite_wf (h : b.mem.wf = true) : (b.afterWrite a v).mem.wf = true := by
  unfold Bus.afterWrite; dsimp only; split
  · exact h
  · exact Memory.wf_write h a v

/-- Every bus call keeps the canonical form of the memory. -/
theorem afterCalls_wf (l : List BusEvent) (h : b.mem.wf = true) : (b.afterCalls l).mem.wf = true := by
  induction l generalizing b with
  | nil => exact h
  | cons e l ih =>
    refine ih _ ?_
    cases e with
    | read a => exact h
    | write a v => exact afterWrite_wf _ _ _ h

theorem afterWriteWord_wf (h : b.mem.wf = true) : (b.afterWriteWord a c).mem.wf = true :=
  afterWrite_wf _ _ _ (afterWrite_wf _ _ _ h)

end

/-! ## The update of an `r8` operand -/

section
variable (x : R8) (v : Byte) (s : State)

@[simp] theorem update_f : (x.update v s).f = s.f := by rcases x with r | _ <;> first | rfl | (cases r <;> rfl)
@[simp] theorem update_sp : (x.update v s).sp = s.sp := by rcases x with r | _ <;> first | rfl | (cases r <;> rfl)
@[simp] theorem update_pc : (x.update v s).pc = s.pc := by rcases x with r | _ <;> first | rfl | (cases r <;> rfl)
@[simp] theorem update_cycles : (x.update v s).cycles = s.cycles := by
  rcases x with r | _ <;> first | rfl | (cases r <;> rfl)
@[simp] theorem update_run : (x.update v s).run = s.run := by rcases x with r | _ <;> first | rfl | (cases r <;> rfl)
@[simp] theorem update_ime : (x.update v s).ime = s.ime := by rcases x with r | _ <;> first | rfl | (cases r <;> rfl)
@[simp] theorem update_imePending : (x.update v s).imePending = s.imePending := by
  rcases x with r | _ <;> first | rfl | (cases r <;> rfl)
@[simp] theorem busAfterRead_mem : (x.busAfterRead s).mem = s.bus.mem := by cases x <;> rfl

theorem update_wf (h : s.bus.mem.wf = true) : (x.update v s).bus.mem.wf = true := by
  cases x with
  | reg r => simpa [R8.update] using h
  | atHL => exact afterWrite_wf _ _ _ h

end

/-! ## A list of bus calls -/

/-- The outcome of an operation whose bus calls are listed: the first one that the bus rejects is reported, with the bus
as the calls before it left it. -/
def guarded {α : Type} (pc : Word) (b : Bus) (calls : List BusEvent) (t : α) : Result α :=
  match calls with
  | [] => .next t
  | e :: rest =>
    if b.rejectsCall e then .fault (.busFault e.access.2 e.access.1 pc b) else guarded pc (b.afterCall e) rest t

section
variable {α β : Type} (pc : Word) (b : Bus) (t : α)

@[simp] theorem guarded_nil : guarded pc b [] t = .next t := rfl

theorem guarded_cons (e : BusEvent) (l : List BusEvent) : guarded pc b (e :: l) t =
    if b.rejectsCall e then .fault (.busFault e.access.2 e.access.1 pc b) else guarded pc (b.afterCall e) l t := rfl

/-- The calls of a sequence are those of its first operation, then those of its second. -/
theorem andThen_guarded {l l' : List BusEvent} {u : β} {k : α → Result β}
    (h : k t = guarded pc (b.afterCalls l) l' u) : andThen (guarded pc b l t) k = guarded pc b (l ++ l') u := by
  induction l generalizing b with
  | nil => simpa using h
  | cons e l ih =>
    rw [guarded_cons, List.cons_append, guarded_cons]
    split
    · rfl
    · exact ih _ h

/-- A second operation without calls adds none. -/
theorem andThen_guarded_next {l : List BusEvent} {u : β} {k : α → Result β} (h : k t = .next u) :
    andThen (guarded pc b l t) k = guarded pc b l u := by
  have := andThen_guarded pc b t (l := l) (l' := []) (u := u) (k := k) h
  rwa [List.append_nil] at this

/-- Everything a list of calls can do: all are accepted, or the first rejected one ends it, those before it done. -/
theorem guarded_cases (l : List BusEvent) :
    ((l.all fun e => !b.rejectsCall e) = true ∧ guarded pc b l t = .next t) ∨
    ∃ before e after, l = before ++ e :: after ∧ (before.all fun e => !b.rejectsCall e) = true ∧
      b.rejectsCall e = true ∧
      guarded pc b l t = .fault (.busFault e.access.2 e.access.1 pc (b.afterCalls before)) := by
  induction l generalizing b with
  | nil => exact .inl ⟨rfl, rfl⟩
  | cons x l ih =>
    rw [guarded_cons]
    by_cases hx : b.rejectsCall x = true
    · exact .inr ⟨[], x, l, rfl, rfl, hx, if_pos hx⟩
    · have hx' : b.rejectsCall x = false := by simpa using hx
      rw [if_neg hx]
      rcases ih (b.afterCall x) with ⟨h1, h2⟩ | ⟨before, e, after, rfl, h1, h2, h3⟩
      · exact .inl ⟨by simpa [hx'] using h1, h2⟩
      · exact .inr ⟨x :: before, e, after, rfl, by simpa [hx'] using h1, by simpa using h2, h3⟩

theorem guarded_accepted {l : List BusEvent} (h : (l.all fun e => !b.rejectsCall e) = true) :
    guarded pc b l t = .next t := by
  rcases guarded_cases pc b t l with ⟨-, h2⟩ | ⟨before, e, after, rfl, -, h2, -⟩
  · exact h2
  · simp [h2] at h

theorem guarded_rejected {before after : List BusEvent} {e : BusEvent}
    (h : (before.all fun e => !b.rejectsCall e) = true) (he : b.rejectsCall e = true) :
    guarded pc b (before ++ e :: after) t =
      .fault (.busFault e.access.2 e.access.1 pc (b.afterCalls before)) := by
  have := andThen_guarded pc b () (l := before) (l' := e :: after) (k := fun _ => guarded pc _ (e :: after) t) rfl
  rw [← this, guarded_accepted pc b () h, andThen_next, guarded_cons, afterCalls_rejectsCall, if_pos he]

theorem guarded_eq_next {l : List BusEvent} {u : α} (h : guarded pc b l t = .next u) :
    u = t ∧ (l.all fun e => !b.rejectsCall e) = true := by
  rcases guarded_cases pc b t l with ⟨h1, h2⟩ | ⟨_, _, _, _, _, _, h2⟩
  · rw [h2] at h
    cases h
    exact ⟨rfl, h1⟩
  · rw [h2] at h
    cases h

theorem guarded_eq_fault {l : List BusEvent} {r : Fault} (h : guarded pc b l t = .fault r) :
    ∃ before e after, l = before ++ e :: after ∧ (before.all fun e => !b.rejectsCall e) = true ∧
      b.rejectsCall e = true ∧ r = .busFault e.access.2 e.access.1 pc (b.afterCalls before) := by
  rcases guarded_cases pc b t l with ⟨_, h2⟩ | ⟨before, e, after, h1, h2, h3, h4⟩
  · rw [h2] at h
    cases h
  · rw [h4] at h
    cases h
    exact ⟨before, e, after, h1, h2, h3, rfl⟩

theorem guarded_not_refused {l : List BusEvent} {r : Refusal} : guarded pc b l t ≠ .refused r := by
  rcases guarded_cases pc b t l with ⟨_, h2⟩ | ⟨_, _, _, _, _, _, h2⟩ <;> rw [h2] <;> nofun

end

/-! ## The operations -/

section
variable (a v : Word) (n : Byte) (s : State)

theorem readByte_eq : readByte a s =
    guarded s.pc s.bus [.read a] (s.bus.peek a, { s with bus := s.bus.afterRead a }) := rfl

theorem writeByte_eq : writeByte a n s =
    guarded s.pc s.bus [.write a n] { s with bus := s.bus.afterWrite a n } := rfl

theorem readWord_eq : readWord a s =
    guarded s.pc s.bus (wordReads a) (s.bus.peekWord a, { s with bus := s.bus.afterReadWord a }) := by
  unfold readWord
  rw [readByte_eq]
  refine andThen_guarded _ _ _ (l' := [.read (a + 1)]) ?_
  dsimp only
  rw [readByte_eq]
  exact andThen_guarded_next _ _ _ rfl

theorem writeWord_eq : writeWord a v s =
    guarded s.pc s.bus (wordWrites a v) { s with bus := s.bus.afterWriteWord a v } := by
  unfold writeWord
  rw [writeByte_eq]
  exact andThen_guarded _ _ _ (l' := [.write (a + 1) (hiByte v)]) rfl

theorem pushWord_eq : pushWord v s = guarded s.pc s.bus (wordWrites (s.sp - 2) v)
    { s with sp := s.sp - 2, bus := s.bus.afterWriteWord (s.sp - 2) v } :=
  writeWord_eq ..

theorem popWord_eq : popWord s = guarded s.pc s.bus (wordReads s.sp)
    (s.bus.peekWord s.sp, { s with sp := s.sp + 2, bus := s.bus.afterReadWord s.sp }) := by
  unfold popWord
  rw [readWord_eq]
  exact andThen_guarded_next _ _ _ rfl

variable (x : R8)

theorem readR8_eq : readR8 x s =
    guarded s.pc s.bus (x.reads s) (x.value s, { s with bus := x.busAfterRead s }) := by
  cases x <;> rfl

/-- The write of `r8[k]` after its read. -/
theorem writeR8_eq : writeR8 x n { s with bus := x.busAfterRead s } =
    guarded s.pc (s.bus.afterCalls (x.reads s)) (x.writes n s) (x.update n s) := by
  cases x <;> rfl

end

end Sys2Proof.Machine
end

