-- ==== Sys2Proof/Laws/PerInstr.lean ====
section
/-! SUPPORT. Per instruction: its form, read from its own encoding, stands for it. So the claims that range over the
forms range over every row of the opcode table. -/

namespace Sys2Proof.Laws

/-- The form of the instruction is a form of the instruction. -/
def FormOf.Statement (i : Instr) : Prop := i.form.instr = i

theorem FormOf.nop : FormOf.Statement (.nop) := Machine.form_instr _
theorem FormOf.ld_bc_n16 (n : Word) : FormOf.Statement (.ld_bc_n16 n) := Machine.form_instr _
theorem FormOf.ld_atBC_a : FormOf.Statement (.ld_atBC_a) := Machine.form_instr _
theorem FormOf.inc_bc : FormOf.Statement (.inc_bc) := Machine.form_instr _
theorem FormOf.inc_b : FormOf.Statement (.inc_b) := Machine.form_instr _
theorem FormOf.dec_b : FormOf.Statement (.dec_b) := Machine.form_instr _
theorem FormOf.ld_b_n8 (n : Byte) : FormOf.Statement (.ld_b_n8 n) := Machine.form_instr _
theorem FormOf.rlca : FormOf.Statement (.rlca) := Machine.form_instr _
theorem FormOf.ld_atA16_sp (a : Word) : FormOf.Statement (.ld_atA16_sp a) := Machine.form_instr _
theorem FormOf.add_hl_bc : FormOf.Statement (.add_hl_bc) := Machine.form_instr _
theorem FormOf.ld_a_atBC : FormOf.Statement (.ld_a_atBC) := Machine.form_instr _
theorem FormOf.dec_bc : FormOf.Statement (.dec_bc) := Machine.form_instr _
theorem FormOf.inc_c : FormOf.Statement (.inc_c) := Machine.form_instr _
theorem FormOf.dec_c : FormOf.Statement (.dec_c) := Machine.form_instr _
theorem FormOf.ld_c_n8 (n : Byte) : FormOf.Statement (.ld_c_n8 n) := Machine.form_instr _
theorem FormOf.rrca : FormOf.Statement (.rrca) := Machine.form_instr _
theorem FormOf.stop (n : Byte) : FormOf.Statement (.stop n) := Machine.form_instr _
theorem FormOf.ld_de_n16 (n : Word) : FormOf.Statement (.ld_de_n16 n) := Machine.form_instr _
theorem FormOf.ld_atDE_a : FormOf.Statement (.ld_atDE_a) := Machine.form_instr _
theorem FormOf.inc_de : FormOf.Statement (.inc_de) := Machine.form_instr _
theorem FormOf.inc_d : FormOf.Statement (.inc_d) := Machine.form_instr _
theorem FormOf.dec_d : FormOf.Statement (.dec_d) := Machine.form_instr _
theorem FormOf.ld_d_n8 (n : Byte) : FormOf.Statement (.ld_d_n8 n) := Machine.form_instr _
theorem FormOf.rla : FormOf.Statement (.rla) := Machine.form_instr _
theorem FormOf.jr_e8 (e : Byte) : FormOf.Statement (.jr_e8 e) := Machine.form_instr _
theorem FormOf.add_hl_de : FormOf.Statement (.add_hl_de) := Machine.form_instr _
theorem FormOf.ld_a_atDE : FormOf.Statement (.ld_a_atDE) := Machine.form_instr _
theorem FormOf.dec_de : FormOf.Statement (.dec_de) := Machine.form_instr _
theorem FormOf.inc_e : FormOf.Statement (.inc_e) := Machine.form_instr _
theorem FormOf.dec_e : FormOf.Statement (.dec_e) := Machine.form_instr _
theorem FormOf.ld_e_n8 (n : Byte) : FormOf.Statement (.ld_e_n8 n) := Machine.form_instr _
theorem FormOf.rra : FormOf.Statement (.rra) := Machine.form_instr _
theorem FormOf.jr_nz_e8 (e : Byte) : FormOf.Statement (.jr_nz_e8 e) := Machine.form_instr _
theorem FormOf.ld_hl_n16 (n : Word) : FormOf.Statement (.ld_hl_n16 n) := Machine.form_instr _
theorem FormOf.ld_atHLI_a : FormOf.Statement (.ld_atHLI_a) := Machine.form_instr _
theorem FormOf.inc_hl : FormOf.Statement (.inc_hl) := Machine.form_instr _
theorem FormOf.inc_h : FormOf.Statement (.inc_h) := Machine.form_instr _
theorem FormOf.dec_h : FormOf.Statement (.dec_h) := Machine.form_instr _
theorem FormOf.ld_h_n8 (n : Byte) : FormOf.Statement (.ld_h_n8 n) := Machine.form_instr _
theorem FormOf.daa : FormOf.Statement (.daa) := Machine.form_instr _
theorem FormOf.jr_z_e8 (e : Byte) : FormOf.Statement (.jr_z_e8 e) := Machine.form_instr _
theorem FormOf.add_hl_hl : FormOf.Statement (.add_hl_hl) := Machine.form_instr _
theorem FormOf.ld_a_atHLI : FormOf.Statement (.ld_a_atHLI) := Machine.form_instr _
theorem FormOf.dec_hl : FormOf.Statement (.dec_hl) := Machine.form_instr _
theorem FormOf.inc_l : FormOf.Statement (.inc_l) := Machine.form_instr _
theorem FormOf.dec_l : FormOf.Statement (.dec_l) := Machine.form_instr _
theorem FormOf.ld_l_n8 (n : Byte) : FormOf.Statement (.ld_l_n8 n) := Machine.form_instr _
theorem FormOf.cpl : FormOf.Statement (.cpl) := Machine.form_instr _
theorem FormOf.jr_nc_e8 (e : Byte) : FormOf.Statement (.jr_nc_e8 e) := Machine.form_instr _
theorem FormOf.ld_sp_n16 (n : Word) : FormOf.Statement (.ld_sp_n16 n) := Machine.form_instr _
theorem FormOf.ld_atHLD_a : FormOf.Statement (.ld_atHLD_a) := Machine.form_instr _
theorem FormOf.inc_sp : FormOf.Statement (.inc_sp) := Machine.form_instr _
theorem FormOf.inc_atHL : FormOf.Statement (.inc_atHL) := Machine.form_instr _
theorem FormOf.dec_atHL : FormOf.Statement (.dec_atHL) := Machine.form_instr _
theorem FormOf.ld_atHL_n8 (n : Byte) : FormOf.Statement (.ld_atHL_n8 n) := Machine.form_instr _
theorem FormOf.scf : FormOf.Statement (.scf) := Machine.form_instr _
theorem FormOf.jr_c_e8 (e : Byte) : FormOf.Statement (.jr_c_e8 e) := Machine.form_instr _
theorem FormOf.add_hl_sp : FormOf.Statement (.add_hl_sp) := Machine.form_instr _
theorem FormOf.ld_a_atHLD : FormOf.Statement (.ld_a_atHLD) := Machine.form_instr _
theorem FormOf.dec_sp : FormOf.Statement (.dec_sp) := Machine.form_instr _
theorem FormOf.inc_a : FormOf.Statement (.inc_a) := Machine.form_instr _
theorem FormOf.dec_a : FormOf.Statement (.dec_a) := Machine.form_instr _
theorem FormOf.ld_a_n8 (n : Byte) : FormOf.Statement (.ld_a_n8 n) := Machine.form_instr _
theorem FormOf.ccf : FormOf.Statement (.ccf) := Machine.form_instr _
theorem FormOf.ld_b_b : FormOf.Statement (.ld_b_b) := Machine.form_instr _
theorem FormOf.ld_b_c : FormOf.Statement (.ld_b_c) := Machine.form_instr _
theorem FormOf.ld_b_d : FormOf.Statement (.ld_b_d) := Machine.form_instr _
theorem FormOf.ld_b_e : FormOf.Statement (.ld_b_e) := Machine.form_instr _
theorem FormOf.ld_b_h : FormOf.Statement (.ld_b_h) := Machine.form_instr _
theorem FormOf.ld_b_l : FormOf.Statement (.ld_b_l) := Machine.form_instr _
theorem FormOf.ld_b_atHL : FormOf.Statement (.ld_b_atHL) := Machine.form_instr _
theorem FormOf.ld_b_a : FormOf.Statement (.ld_b_a) := Machine.form_instr _
theorem FormOf.ld_c_b : FormOf.Statement (.ld_c_b) := Machine.form_instr _
theorem FormOf.ld_c_c : FormOf.Statement (.ld_c_c) := Machine.form_instr _
theorem FormOf.ld_c_d : FormOf.Statement (.ld_c_d) := Machine.form_instr _
theorem FormOf.ld_c_e : FormOf.Statement (.ld_c_e) := Machine.form_instr _
theorem FormOf.ld_c_h : FormOf.Statement (.ld_c_h) := Machine.form_instr _
theorem FormOf.ld_c_l : FormOf.Statement (.ld_c_l) := Machine.form_instr _
theorem FormOf.ld_c_atHL : FormOf.Statement (.ld_c_atHL) := Machine.form_instr _
theorem FormOf.ld_c_a : FormOf.Statement (.ld_c_a) := Machine.form_instr _
theorem FormOf.ld_d_b : FormOf.Statement (.ld_d_b) := Machine.form_instr _
theorem FormOf.ld_d_c : FormOf.Statement (.ld_d_c) := Machine.form_instr _
theorem FormOf.ld_d_d : FormOf.Statement (.ld_d_d) := Machine.form_instr _
theorem FormOf.ld_d_e : FormOf.Statement (.ld_d_e) := Machine.form_instr _
theorem FormOf.ld_d_h : FormOf.Statement (.ld_d_h) := Machine.form_instr _
theorem FormOf.ld_d_l : FormOf.Statement (.ld_d_l) := Machine.form_instr _
theorem FormOf.ld_d_atHL : FormOf.Statement (.ld_d_atHL) := Machine.form_instr _
theorem FormOf.ld_d_a : FormOf.Statement (.ld_d_a) := Machine.form_instr _
theorem FormOf.ld_e_b : FormOf.Statement (.ld_e_b) := Machine.form_instr _
theorem FormOf.ld_e_c : FormOf.Statement (.ld_e_c) := Machine.form_instr _
theorem FormOf.ld_e_d : FormOf.Statement (.ld_e_d) := Machine.form_instr _
theorem FormOf.ld_e_e : FormOf.Statement (.ld_e_e) := Machine.form_instr _
theorem FormOf.ld_e_h : FormOf.Statement (.ld_e_h) := Machine.form_instr _
theorem FormOf.ld_e_l : FormOf.Statement (.ld_e_l) := Machine.form_instr _
theorem FormOf.ld_e_atHL : FormOf.Statement (.ld_e_atHL) := Machine.form_instr _
theorem FormOf.ld_e_a : FormOf.Statement (.ld_e_a) := Machine.form_instr _
theorem FormOf.ld_h_b : FormOf.Statement (.ld_h_b) := Machine.form_instr _
theorem FormOf.ld_h_c : FormOf.Statement (.ld_h_c) := Machine.form_instr _
theorem FormOf.ld_h_d : FormOf.Statement (.ld_h_d) := Machine.form_instr _
theorem FormOf.ld_h_e : FormOf.Statement (.ld_h_e) := Machine.form_instr _
theorem FormOf.ld_h_h : FormOf.Statement (.ld_h_h) := Machine.form_instr _
theorem FormOf.ld_h_l : FormOf.Statement (.ld_h_l) := Machine.form_instr _
theorem FormOf.ld_h_atHL : FormOf.Statement (.ld_h_atHL) := Machine.form_instr _
theorem FormOf.ld_h_a : FormOf.Statement (.ld_h_a) := Machine.form_instr _
theorem FormOf.ld_l_b : FormOf.Statement (.ld_l_b) := Machine.form_instr _
theorem FormOf.ld_l_c : FormOf.Statement (.ld_l_c) := Machine.form_instr _
theorem FormOf.ld_l_d : FormOf.Statement (.ld_l_d) := Machine.form_instr _
theorem FormOf.ld_l_e : FormOf.Statement (.ld_l_e) := Machine.form_instr _
theorem FormOf.ld_l_h : FormOf.Statement (.ld_l_h) := Machine.form_instr _
theorem FormOf.ld_l_l : FormOf.Statement (.ld_l_l) := Machine.form_instr _
theorem FormOf.ld_l_atHL : FormOf.Statement (.ld_l_atHL) := Machine.form_instr _
theorem FormOf.ld_l_a : FormOf.Statement (.ld_l_a) := Machine.form_instr _
theorem FormOf.ld_atHL_b : FormOf.Statement (.ld_atHL_b) := Machine.form_instr _
theorem FormOf.ld_atHL_c : FormOf.Statement (.ld_atHL_c) := Machine.form_instr _
theorem FormOf.ld_atHL_d : FormOf.Statement (.ld_atHL_d) := Machine.form_instr _
theorem FormOf.ld_atHL_e : FormOf.Statement (.ld_atHL_e) := Machine.form_instr _
theorem FormOf.ld_atHL_h : FormOf.Statement (.ld_atHL_h) := Machine.form_instr _
theorem FormOf.ld_atHL_l : FormOf.Statement (.ld_atHL_l) := Machine.form_instr _
theorem FormOf.halt : FormOf.Statement (.halt) := Machine.form_instr _
theorem FormOf.ld_atHL_a : FormOf.Statement (.ld_atHL_a) := Machine.form_instr _
theorem FormOf.ld_a_b : FormOf.Statement (.ld_a_b) := Machine.form_instr _
theorem FormOf.ld_a_c : FormOf.Statement (.ld_a_c) := Machine.form_instr _
theorem FormOf.ld_a_d : FormOf.Statement (.ld_a_d) := Machine.form_instr _
theorem FormOf.ld_a_e : FormOf.Statement (.ld_a_e) := Machine.form_instr _
theorem FormOf.ld_a_h : FormOf.Statement (.ld_a_h) := Machine.form_instr _
theorem FormOf.ld_a_l : FormOf.Statement (.ld_a_l) := Machine.form_instr _
theorem FormOf.ld_a_atHL : FormOf.Statement (.ld_a_atHL) := Machine.form_instr _
theorem FormOf.ld_a_a : FormOf.Statement (.ld_a_a) := Machine.form_instr _
theorem FormOf.add_a_b : FormOf.Statement (.add_a_b) := Machine.form_instr _
theorem FormOf.add_a_c : FormOf.Statement (.add_a_c) := Machine.form_instr _
theorem FormOf.add_a_d : FormOf.Statement (.add_a_d) := Machine.form_instr _
theorem FormOf.add_a_e : FormOf.Statement (.add_a_e) := Machine.form_instr _
theorem FormOf.add_a_h : FormOf.Statement (.add_a_h) := Machine.form_instr _
theorem FormOf.add_a_l : FormOf.Statement (.add_a_l) := Machine.form_instr _
theorem FormOf.add_a_atHL : FormOf.Statement (.add_a_atHL) := Machine.form_instr _
theorem FormOf.add_a_a : FormOf.Statement (.add_a_a) := Machine.form_instr _
theorem FormOf.adc_a_b : FormOf.Statement (.adc_a_b) := Machine.form_instr _
theorem FormOf.adc_a_c : FormOf.Statement (.adc_a_c) := Machine.form_instr _
theorem FormOf.adc_a_d : FormOf.Statement (.adc_a_d) := Machine.form_instr _
theorem FormOf.adc_a_e : FormOf.Statement (.adc_a_e) := Machine.form_instr _
theorem FormOf.adc_a_h : FormOf.Statement (.adc_a_h) := Machine.form_instr _
theorem FormOf.adc_a_l : FormOf.Statement (.adc_a_l) := Machine.form_instr _
theorem FormOf.adc_a_atHL : FormOf.Statement (.adc_a_atHL) := Machine.form_instr _
theorem FormOf.adc_a_a : FormOf.Statement (.adc_a_a) := Machine.form_instr _
theorem FormOf.sub_b : FormOf.Statement (.sub_b) := Machine.form_instr _
theorem FormOf.sub_c : FormOf.Statement (.sub_c) := Machine.form_instr _
theorem FormOf.sub_d : FormOf.Statement (.sub_d) := Machine.form_instr _
theorem FormOf.sub_e : FormOf.Statement (.sub_e) := Machine.form_instr _
theorem FormOf.sub_h : FormOf.Statement (.sub_h) := Machine.form_instr _
theorem FormOf.sub_l : FormOf.Statement (.sub_l) := Machine.form_instr _
theorem FormOf.sub_atHL : FormOf.Statement (.sub_atHL) := Machine.form_instr _
theorem FormOf.sub_a : FormOf.Statement (.sub_a) := Machine.form_instr _
theorem FormOf.sbc_a_b : FormOf.Statement (.sbc_a_b) := Machine.form_instr _
theorem FormOf.sbc_a_c : FormOf.Statement (.sbc_a_c) := Machine.form_instr _
theorem FormOf.sbc_a_d : FormOf.Statement (.sbc_a_d) := Machine.form_instr _
theorem FormOf.sbc_a_e : FormOf.Statement (.sbc_a_e) := Machine.form_instr _
theorem FormOf.sbc_a_h : FormOf.Statement (.sbc_a_h) := Machine.form_instr _
theorem FormOf.sbc_a_l : FormOf.Statement (.sbc_a_l) := Machine.form_instr _
theorem FormOf.sbc_a_atHL : FormOf.Statement (.sbc_a_atHL) := Machine.form_instr _
theorem FormOf.sbc_a_a : FormOf.Statement (.sbc_a_a) := Machine.form_instr _
theorem FormOf.and_b : FormOf.Statement (.and_b) := Machine.form_instr _
theorem FormOf.and_c : FormOf.Statement (.and_c) := Machine.form_instr _
theorem FormOf.and_d : FormOf.Statement (.and_d) := Machine.form_instr _
theorem FormOf.and_e : FormOf.Statement (.and_e) := Machine.form_instr _
theorem FormOf.and_h : FormOf.Statement (.and_h) := Machine.form_instr _
theorem FormOf.and_l : FormOf.Statement (.and_l) := Machine.form_instr _
theorem FormOf.and_atHL : FormOf.Statement (.and_atHL) := Machine.form_instr _
theorem FormOf.and_a : FormOf.Statement (.and_a) := Machine.form_instr _
theorem FormOf.xor_b : FormOf.Statement (.xor_b) := Machine.form_instr _
theorem FormOf.xor_c : FormOf.Statement (.xor_c) := Machine.form_instr _
theorem FormOf.xor_d : FormOf.Statement (.xor_d) := Machine.form_instr _
theorem FormOf.xor_e : FormOf.Statement (.xor_e) := Machine.form_instr _
theorem FormOf.xor_h : FormOf.Statement (.xor_h) := Machine.form_instr _
theorem FormOf.xor_l : FormOf.Statement (.xor_l) := Machine.form_instr _
theorem FormOf.xor_atHL : FormOf.Statement (.xor_atHL) := Machine.form_instr _
theorem FormOf.xor_a : FormOf.Statement (.xor_a) := Machine.form_instr _
theorem FormOf.or_b : FormOf.Statement (.or_b) := Machine.form_instr _
theorem FormOf.or_c : FormOf.Statement (.or_c) := Machine.form_instr _
theorem FormOf.or_d : FormOf.Statement (.or_d) := Machine.form_instr _
theorem FormOf.or_e : FormOf.Statement (.or_e) := Machine.form_instr _
theorem FormOf.or_h : FormOf.Statement (.or_h) := Machine.form_instr _
theorem FormOf.or_l : FormOf.Statement (.or_l) := Machine.form_instr _
theorem FormOf.or_atHL : FormOf.Statement (.or_atHL) := Machine.form_instr _
theorem FormOf.or_a : FormOf.Statement (.or_a) := Machine.form_instr _
theorem FormOf.cp_b : FormOf.Statement (.cp_b) := Machine.form_instr _
theorem FormOf.cp_c : FormOf.Statement (.cp_c) := Machine.form_instr _
theorem FormOf.cp_d : FormOf.Statement (.cp_d) := Machine.form_instr _
theorem FormOf.cp_e : FormOf.Statement (.cp_e) := Machine.form_instr _
theorem FormOf.cp_h : FormOf.Statement (.cp_h) := Machine.form_instr _
theorem FormOf.cp_l : FormOf.Statement (.cp_l) := Machine.form_instr _
theorem FormOf.cp_atHL : FormOf.Statement (.cp_atHL) := Machine.form_instr _
theorem FormOf.cp_a : FormOf.Statement (.cp_a) := Machine.form_instr _
theorem FormOf.ret_nz : FormOf.Statement (.ret_nz) := Machine.form_instr _
theorem FormOf.pop_bc : FormOf.Statement (.pop_bc) := Machine.form_instr _
theorem FormOf.jp_nz_a16 (a : Word) : FormOf.Statement (.jp_nz_a16 a) := Machine.form_instr _
theorem FormOf.jp_a16 (a : Word) : FormOf.Statement (.jp_a16 a) := Machine.form_instr _
theorem FormOf.call_nz_a16 (a : Word) : FormOf.Statement (.call_nz_a16 a) := Machine.form_instr _
theorem FormOf.push_bc : FormOf.Statement (.push_bc) := Machine.form_instr _
theorem FormOf.add_a_n8 (n : Byte) : FormOf.Statement (.add_a_n8 n) := Machine.form_instr _
theorem FormOf.rst_00 : FormOf.Statement (.rst_00) := Machine.form_instr _
theorem FormOf.ret_z : FormOf.Statement (.ret_z) := Machine.form_instr _
theorem FormOf.ret : FormOf.Statement (.ret) := Machine.form_instr _
theorem FormOf.jp_z_a16 (a : Word) : FormOf.Statement (.jp_z_a16 a) := Machine.form_instr _
theorem FormOf.call_z_a16 (a : Word) : FormOf.Statement (.call_z_a16 a) := Machine.form_instr _
theorem FormOf.call_a16 (a : Word) : FormOf.Statement (.call_a16 a) := Machine.form_instr _
theorem FormOf.adc_a_n8 (n : Byte) : FormOf.Statement (.adc_a_n8 n) := Machine.form_instr _
theorem FormOf.rst_08 : FormOf.Statement (.rst_08) := Machine.form_instr _
theorem FormOf.ret_nc : FormOf.Statement (.ret_nc) := Machine.form_instr _
theorem FormOf.pop_de : FormOf.Statement (.pop_de) := Machine.form_instr _
theorem FormOf.jp_nc_a16 (a : Word) : FormOf.Statement (.jp_nc_a16 a) := Machine.form_instr _
theorem FormOf.call_nc_a16 (a : Word) : FormOf.Statement (.call_nc_a16 a) := Machine.form_instr _
theorem FormOf.push_de : FormOf.Statement (.push_de) := Machine.form_instr _
theorem FormOf.sub_n8 (n : Byte) : FormOf.Statement (.sub_n8 n) := Machine.form_instr _
theorem FormOf.rst_10 : FormOf.Statement (.rst_10) := Machine.form_instr _
theorem FormOf.ret_c : FormOf.Statement (.ret_c) := Machine.form_instr _
theorem FormOf.reti : FormOf.Statement (.reti) := Machine.form_instr _
theorem FormOf.jp_c_a16 (a : Word) : FormOf.Statement (.jp_c_a16 a) := Machine.form_instr _
theorem FormOf.call_c_a16 (a : Word) : FormOf.Statement (.call_c_a16 a) := Machine.form_instr _
theorem FormOf.sbc_a_n8 (n : Byte) : FormOf.Statement (.sbc_a_n8 n) := Machine.form_instr _
theorem FormOf.rst_18 : FormOf.Statement (.rst_18) := Machine.form_instr _
theorem FormOf.ldh_atA8_a (n : Byte) : FormOf.Statement (.ldh_atA8_a n) := Machine.form_instr _
theorem FormOf.pop_hl : FormOf.Statement (.pop_hl) := Machine.form_instr _
theorem FormOf.ld_atC_a : FormOf.Statement (.ld_atC_a) := Machine.form_instr _
theorem FormOf.push_hl : FormOf.Statement (.push_hl) := Machine.form_instr _
theorem FormOf.and_n8 (n : Byte) : FormOf.Statement (.and_n8 n) := Machine.form_instr _
theorem FormOf.rst_20 : FormOf.Statement (.rst_20) := Machine.form_instr _
theorem FormOf.add_sp_e8 (e : Byte) : FormOf.Statement (.add_sp_e8 e) := Machine.form_instr _
theorem FormOf.jp_hl : FormOf.Statement (.jp_hl) := Machine.form_instr _
theorem FormOf.ld_atA16_a (a : Word) : FormOf.Statement (.ld_atA16_a a) := Machine.form_instr _
theorem FormOf.xor_n8 (n : Byte) : FormOf.Statement (.xor_n8 n) := Machine.form_instr _
theorem FormOf.rst_28 : FormOf.Statement (.rst_28) := Machine.form_instr _
theorem FormOf.ldh_a_atA8 (n : Byte) : FormOf.Statement (.ldh_a_atA8 n) := Machine.form_instr _
theorem FormOf.pop_af : FormOf.Statement (.pop_af) := Machine.form_instr _
theorem FormOf.ld_a_atC : FormOf.Statement (.ld_a_atC) := Machine.form_instr _
theorem FormOf.di : FormOf.Statement (.di) := Machine.form_instr _
theorem FormOf.push_af : FormOf.Statement (.push_af) := Machine.form_instr _
theorem FormOf.or_n8 (n : Byte) : FormOf.Statement (.or_n8 n) := Machine.form_instr _
theorem FormOf.rst_30 : FormOf.Statement (.rst_30) := Machine.form_instr _
theorem FormOf.ld_hl_sp_e8 (e : Byte) : FormOf.Statement (.ld_hl_sp_e8 e) := Machine.form_instr _
theorem FormOf.ld_sp_hl : FormOf.Statement (.ld_sp_hl) := Machine.form_instr _
theorem FormOf.ld_a_atA16 (a : Word) : FormOf.Statement (.ld_a_atA16 a) := Machine.form_instr _
theorem FormOf.ei : FormOf.Statement (.ei) := Machine.form_instr _
theorem FormOf.cp_n8 (n : Byte) : FormOf.Statement (.cp_n8 n) := Machine.form_instr _
theorem FormOf.rst_38 : FormOf.Statement (.rst_38) := Machine.form_instr _
theorem FormOf.rlc_b : FormOf.Statement (.rlc_b) := Machine.form_instr _
theorem FormOf.rlc_c : FormOf.Statement (.rlc_c) := Machine.form_instr _
theorem FormOf.rlc_d : FormOf.Statement (.rlc_d) := Machine.form_instr _
theorem FormOf.rlc_e : FormOf.Statement (.rlc_e) := Machine.form_instr _
theorem FormOf.rlc_h : FormOf.Statement (.rlc_h) := Machine.form_instr _
theorem FormOf.rlc_l : FormOf.Statement (.rlc_l) := Machine.form_instr _
theorem FormOf.rlc_atHL : FormOf.Statement (.rlc_atHL) := Machine.form_instr _
theorem FormOf.rlc_a : FormOf.Statement (.rlc_a) := Machine.form_instr _
theorem FormOf.rrc_b : FormOf.Statement (.rrc_b) := Machine.form_instr _
theorem FormOf.rrc_c : FormOf.Statement (.rrc_c) := Machine.form_instr _
theorem FormOf.rrc_d : FormOf.Statement (.rrc_d) := Machine.form_instr _
theorem FormOf.rrc_e : FormOf.Statement (.rrc_e) := Machine.form_instr _
theorem FormOf.rrc_h : FormOf.Statement (.rrc_h) := Machine.form_instr _
theorem FormOf.rrc_l : FormOf.Statement (.rrc_l) := Machine.form_instr _
theorem FormOf.rrc_atHL : FormOf.Statement (.rrc_atHL) := Machine.form_instr _
theorem FormOf.rrc_a : FormOf.Statement (.rrc_a) := Machine.form_instr _
theorem FormOf.rl_b : FormOf.Statement (.rl_b) := Machine.form_instr _
theorem FormOf.rl_c : FormOf.Statement (.rl_c) := Machine.form_instr _
theorem FormOf.rl_d : FormOf.Statement (.rl_d) := Machine.form_instr _
theorem FormOf.rl_e : FormOf.Statement (.rl_e) := Machine.form_instr _
theorem FormOf.rl_h : FormOf.Statement (.rl_h) := Machine.form_instr _
theorem FormOf.rl_l : FormOf.Statement (.rl_l) := Machine.form_instr _
theorem FormOf.rl_atHL : FormOf.Statement (.rl_atHL) := Machine.form_instr _
theorem FormOf.rl_a : FormOf.Statement (.rl_a) := Machine.form_instr _
theorem FormOf.rr_b : FormOf.Statement (.rr_b) := Machine.form_instr _
theorem FormOf.rr_c : FormOf.Statement (.rr_c) := Machine.form_instr _
theorem FormOf.rr_d : FormOf.Statement (.rr_d) := Machine.form_instr _
theorem FormOf.rr_e : FormOf.Statement (.rr_e) := Machine.form_instr _
theorem FormOf.rr_h : FormOf.Statement (.rr_h) := Machine.form_instr _
theorem FormOf.rr_l : FormOf.Statement (.rr_l) := Machine.form_instr _
theorem FormOf.rr_atHL : FormOf.Statement (.rr_atHL) := Machine.form_instr _
theorem FormOf.rr_a : FormOf.Statement (.rr_a) := Machine.form_instr _
theorem FormOf.sla_b : FormOf.Statement (.sla_b) := Machine.form_instr _
theorem FormOf.sla_c : FormOf.Statement (.sla_c) := Machine.form_instr _
theorem FormOf.sla_d : FormOf.Statement (.sla_d) := Machine.form_instr _
theorem FormOf.sla_e : FormOf.Statement (.sla_e) := Machine.form_instr _
theorem FormOf.sla_h : FormOf.Statement (.sla_h) := Machine.form_instr _
theorem FormOf.sla_l : FormOf.Statement (.sla_l) := Machine.form_instr _
theorem FormOf.sla_atHL : FormOf.Statement (.sla_atHL) := Machine.form_instr _
theorem FormOf.sla_a : FormOf.Statement (.sla_a) := Machine.form_instr _
theorem FormOf.sra_b : FormOf.Statement (.sra_b) := Machine.form_instr _
theorem FormOf.sra_c : FormOf.Statement (.sra_c) := Machine.form_instr _
theorem FormOf.sra_d : FormOf.Statement (.sra_d) := Machine.form_instr _
theorem FormOf.sra_e : FormOf.Statement (.sra_e) := Machine.form_instr _
theorem FormOf.sra_h : FormOf.Statement (.sra_h) := Machine.form_instr _
theorem FormOf.sra_l : FormOf.Statement (.sra_l) := Machine.form_instr _
theorem FormOf.sra_atHL : FormOf.Statement (.sra_atHL) := Machine.form_instr _
theorem FormOf.sra_a : FormOf.Statement (.sra_a) := Machine.form_instr _
theorem FormOf.swap_b : FormOf.Statement (.swap_b) := Machine.form_instr _
theorem FormOf.swap_c : FormOf.Statement (.swap_c) := Machine.form_instr _
theorem FormOf.swap_d : FormOf.Statement (.swap_d) := Machine.form_instr _
theorem FormOf.swap_e : FormOf.Statement (.swap_e) := Machine.form_instr _
theorem FormOf.swap_h : FormOf.Statement (.swap_h) := Machine.form_instr _
theorem FormOf.swap_l : FormOf.Statement (.swap_l) := Machine.form_instr _
theorem FormOf.swap_atHL : FormOf.Statement (.swap_atHL) := Machine.form_instr _
theorem FormOf.swap_a : FormOf.Statement (.swap_a) := Machine.form_instr _
theorem FormOf.srl_b : FormOf.Statement (.srl_b) := Machine.form_instr _
theorem FormOf.srl_c : FormOf.Statement (.srl_c) := Machine.form_instr _
theorem FormOf.srl_d : FormOf.Statement (.srl_d) := Machine.form_instr _
theorem FormOf.srl_e : FormOf.Statement (.srl_e) := Machine.form_instr _
theorem FormOf.srl_h : FormOf.Statement (.srl_h) := Machine.form_instr _
theorem FormOf.srl_l : FormOf.Statement (.srl_l) := Machine.form_instr _
theorem FormOf.srl_atHL : FormOf.Statement (.srl_atHL) := Machine.form_instr _
theorem FormOf.srl_a : FormOf.Statement (.srl_a) := Machine.form_instr _
theorem FormOf.bit_0_b : FormOf.Statement (.bit_0_b) := Machine.form_instr _
theorem FormOf.bit_0_c : FormOf.Statement (.bit_0_c) := Machine.form_instr _
theorem FormOf.bit_0_d : FormOf.Statement (.bit_0_d) := Machine.form_instr _
theorem FormOf.bit_0_e : FormOf.Statement (.bit_0_e) := Machine.form_instr _
theorem FormOf.bit_0_h : FormOf.Statement (.bit_0_h) := Machine.form_instr _
theorem FormOf.bit_0_l : FormOf.Statement (.bit_0_l) := Machine.form_instr _
theorem FormOf.bit_0_atHL : FormOf.Statement (.bit_0_atHL) := Machine.form_instr _
theorem FormOf.bit_0_a : FormOf.Statement (.bit_0_a) := Machine.form_instr _
theorem FormOf.bit_1_b : FormOf.Statement (.bit_1_b) := Machine.form_instr _
theorem FormOf.bit_1_c : FormOf.Statement (.bit_1_c) := Machine.form_instr _
theorem FormOf.bit_1_d : FormOf.Statement (.bit_1_d) := Machine.form_instr _
theorem FormOf.bit_1_e : FormOf.Statement (.bit_1_e) := Machine.form_instr _
theorem FormOf.bit_1_h : FormOf.Statement (.bit_1_h) := Machine.form_instr _
theorem FormOf.bit_1_l : FormOf.Statement (.bit_1_l) := Machine.form_instr _
theorem FormOf.bit_1_atHL : FormOf.Statement (.bit_1_atHL) := Machine.form_instr _
theorem FormOf.bit_1_a : FormOf.Statement (.bit_1_a) := Machine.form_instr _
theorem FormOf.bit_2_b : FormOf.Statement (.bit_2_b) := Machine.form_instr _
theorem FormOf.bit_2_c : FormOf.Statement (.bit_2_c) := Machine.form_instr _
theorem FormOf.bit_2_d : FormOf.Statement (.bit_2_d) := Machine.form_instr _
theorem FormOf.bit_2_e : FormOf.Statement (.bit_2_e) := Machine.form_instr _
theorem FormOf.bit_2_h : FormOf.Statement (.bit_2_h) := Machine.form_instr _
theorem FormOf.bit_2_l : FormOf.Statement (.bit_2_l) := Machine.form_instr _
theorem FormOf.bit_2_atHL : FormOf.Statement (.bit_2_atHL) := Machine.form_instr _
theorem FormOf.bit_2_a : FormOf.Statement (.bit_2_a) := Machine.form_instr _
theorem FormOf.bit_3_b : FormOf.Statement (.bit_3_b) := Machine.form_instr _
theorem FormOf.bit_3_c : FormOf.Statement (.bit_3_c) := Machine.form_instr _
theorem FormOf.bit_3_d : FormOf.Statement (.bit_3_d) := Machine.form_instr _
theorem FormOf.bit_3_e : FormOf.Statement (.bit_3_e) := Machine.form_instr _
theorem FormOf.bit_3_h : FormOf.Statement (.bit_3_h) := Machine.form_instr _
theorem FormOf.bit_3_l : FormOf.Statement (.bit_3_l) := Machine.form_instr _
theorem FormOf.bit_3_atHL : FormOf.Statement (.bit_3_atHL) := Machine.form_instr _
theorem FormOf.bit_3_a : FormOf.Statement (.bit_3_a) := Machine.form_instr _
theorem FormOf.bit_4_b : FormOf.Statement (.bit_4_b) := Machine.form_instr _
theorem FormOf.bit_4_c : FormOf.Statement (.bit_4_c) := Machine.form_instr _
theorem FormOf.bit_4_d : FormOf.Statement (.bit_4_d) := Machine.form_instr _
theorem FormOf.bit_4_e : FormOf.Statement (.bit_4_e) := Machine.form_instr _
theorem FormOf.bit_4_h : FormOf.Statement (.bit_4_h) := Machine.form_instr _
theorem FormOf.bit_4_l : FormOf.Statement (.bit_4_l) := Machine.form_instr _
theorem FormOf.bit_4_atHL : FormOf.Statement (.bit_4_atHL) := Machine.form_instr _
theorem FormOf.bit_4_a : FormOf.Statement (.bit_4_a) := Machine.form_instr _
theorem FormOf.bit_5_b : FormOf.Statement (.bit_5_b) := Machine.form_instr _
theorem FormOf.bit_5_c : FormOf.Statement (.bit_5_c) := Machine.form_instr _
theorem FormOf.bit_5_d : FormOf.Statement (.bit_5_d) := Machine.form_instr _
theorem FormOf.bit_5_e : FormOf.Statement (.bit_5_e) := Machine.form_instr _
theorem FormOf.bit_5_h : FormOf.Statement (.bit_5_h) := Machine.form_instr _
theorem FormOf.bit_5_l : FormOf.Statement (.bit_5_l) := Machine.form_instr _
theorem FormOf.bit_5_atHL : FormOf.Statement (.bit_5_atHL) := Machine.form_instr _
theorem FormOf.bit_5_a : FormOf.Statement (.bit_5_a) := Machine.form_instr _
theorem FormOf.bit_6_b : FormOf.Statement (.bit_6_b) := Machine.form_instr _
theorem FormOf.bit_6_c : FormOf.Statement (.bit_6_c) := Machine.form_instr _
theorem FormOf.bit_6_d : FormOf.Statement (.bit_6_d) := Machine.form_instr _
theorem FormOf.bit_6_e : FormOf.Statement (.bit_6_e) := Machine.form_instr _
theorem FormOf.bit_6_h : FormOf.Statement (.bit_6_h) := Machine.form_instr _
theorem FormOf.bit_6_l : FormOf.Statement (.bit_6_l) := Machine.form_instr _
theorem FormOf.bit_6_atHL : FormOf.Statement (.bit_6_atHL) := Machine.form_instr _
theorem FormOf.bit_6_a : FormOf.Statement (.bit_6_a) := Machine.form_instr _
theorem FormOf.bit_7_b : FormOf.Statement (.bit_7_b) := Machine.form_instr _
theorem FormOf.bit_7_c : FormOf.Statement (.bit_7_c) := Machine.form_instr _
theorem FormOf.bit_7_d : FormOf.Statement (.bit_7_d) := Machine.form_instr _
theorem FormOf.bit_7_e : FormOf.Statement (.bit_7_e) := Machine.form_instr _
theorem FormOf.bit_7_h : FormOf.Statement (.bit_7_h) := Machine.form_instr _
theorem FormOf.bit_7_l : FormOf.Statement (.bit_7_l) := Machine.form_instr _
theorem FormOf.bit_7_atHL : FormOf.Statement (.bit_7_atHL) := Machine.form_instr _
theorem FormOf.bit_7_a : FormOf.Statement (.bit_7_a) := Machine.form_instr _
theorem FormOf.res_0_b : FormOf.Statement (.res_0_b) := Machine.form_instr _
theorem FormOf.res_0_c : FormOf.Statement (.res_0_c) := Machine.form_instr _
theorem FormOf.res_0_d : FormOf.Statement (.res_0_d) := Machine.form_instr _
theorem FormOf.res_0_e : FormOf.Statement (.res_0_e) := Machine.form_instr _
theorem FormOf.res_0_h : FormOf.Statement (.res_0_h) := Machine.form_instr _
theorem FormOf.res_0_l : FormOf.Statement (.res_0_l) := Machine.form_instr _
theorem FormOf.res_0_atHL : FormOf.Statement (.res_0_atHL) := Machine.form_instr _
theorem FormOf.res_0_a : FormOf.Statement (.res_0_a) := Machine.form_instr _
theorem FormOf.res_1_b : FormOf.Statement (.res_1_b) := Machine.form_instr _
theorem FormOf.res_1_c : FormOf.Statement (.res_1_c) := Machine.form_instr _
theorem FormOf.res_1_d : FormOf.Statement (.res_1_d) := Machine.form_instr _
theorem FormOf.res_1_e : FormOf.Statement (.res_1_e) := Machine.form_instr _
theorem FormOf.res_1_h : FormOf.Statement (.res_1_h) := Machine.form_instr _
theorem FormOf.res_1_l : FormOf.Statement (.res_1_l) := Machine.form_instr _
theorem FormOf.res_1_atHL : FormOf.Statement (.res_1_atHL) := Machine.form_instr _
theorem FormOf.res_1_a : FormOf.Statement (.res_1_a) := Machine.form_instr _
theorem FormOf.res_2_b : FormOf.Statement (.res_2_b) := Machine.form_instr _
theorem FormOf.res_2_c : FormOf.Statement (.res_2_c) := Machine.form_instr _
theorem FormOf.res_2_d : FormOf.Statement (.res_2_d) := Machine.form_instr _
theorem FormOf.res_2_e : FormOf.Statement (.res_2_e) := Machine.form_instr _
theorem FormOf.res_2_h : FormOf.Statement (.res_2_h) := Machine.form_instr _
theorem FormOf.res_2_l : FormOf.Statement (.res_2_l) := Machine.form_instr _
theorem FormOf.res_2_atHL : FormOf.Statement (.res_2_atHL) := Machine.form_instr _
theorem FormOf.res_2_a : FormOf.Statement (.res_2_a) := Machine.form_instr _
theorem FormOf.res_3_b : FormOf.Statement (.res_3_b) := Machine.form_instr _
theorem FormOf.res_3_c : FormOf.Statement (.res_3_c) := Machine.form_instr _
theorem FormOf.res_3_d : FormOf.Statement (.res_3_d) := Machine.form_instr _
theorem FormOf.res_3_e : FormOf.Statement (.res_3_e) := Machine.form_instr _
theorem FormOf.res_3_h : FormOf.Statement (.res_3_h) := Machine.form_instr _
theorem FormOf.res_3_l : FormOf.Statement (.res_3_l) := Machine.form_instr _
theorem FormOf.res_3_atHL : FormOf.Statement (.res_3_atHL) := Machine.form_instr _
theorem FormOf.res_3_a : FormOf.Statement (.res_3_a) := Machine.form_instr _
theorem FormOf.res_4_b : FormOf.Statement (.res_4_b) := Machine.form_instr _
theorem FormOf.res_4_c : FormOf.Statement (.res_4_c) := Machine.form_instr _
theorem FormOf.res_4_d : FormOf.Statement (.res_4_d) := Machine.form_instr _
theorem FormOf.res_4_e : FormOf.Statement (.res_4_e) := Machine.form_instr _
theorem FormOf.res_4_h : FormOf.Statement (.res_4_h) := Machine.form_instr _
theorem FormOf.res_4_l : FormOf.Statement (.res_4_l) := Machine.form_instr _
theorem FormOf.res_4_atHL : FormOf.Statement (.res_4_atHL) := Machine.form_instr _
theorem FormOf.res_4_a : FormOf.Statement (.res_4_a) := Machine.form_instr _
theorem FormOf.res_5_b : FormOf.Statement (.res_5_b) := Machine.form_instr _
theorem FormOf.res_5_c : FormOf.Statement (.res_5_c) := Machine.form_instr _
theorem FormOf.res_5_d : FormOf.Statement (.res_5_d) := Machine.form_instr _
theorem FormOf.res_5_e : FormOf.Statement (.res_5_e) := Machine.form_instr _
theorem FormOf.res_5_h : FormOf.Statement (.res_5_h) := Machine.form_instr _
theorem FormOf.res_5_l : FormOf.Statement (.res_5_l) := Machine.form_instr _
theorem FormOf.res_5_atHL : FormOf.Statement (.res_5_atHL) := Machine.form_instr _
theorem FormOf.res_5_a : FormOf.Statement (.res_5_a) := Machine.form_instr _
theorem FormOf.res_6_b : FormOf.Statement (.res_6_b) := Machine.form_instr _
theorem FormOf.res_6_c : FormOf.Statement (.res_6_c) := Machine.form_instr _
theorem FormOf.res_6_d : FormOf.Statement (.res_6_d) := Machine.form_instr _
theorem FormOf.res_6_e : FormOf.Statement (.res_6_e) := Machine.form_instr _
theorem FormOf.res_6_h : FormOf.Statement (.res_6_h) := Machine.form_instr _
theorem FormOf.res_6_l : FormOf.Statement (.res_6_l) := Machine.form_instr _
theorem FormOf.res_6_atHL : FormOf.Statement (.res_6_atHL) := Machine.form_instr _
theorem FormOf.res_6_a : FormOf.Statement (.res_6_a) := Machine.form_instr _
theorem FormOf.res_7_b : FormOf.Statement (.res_7_b) := Machine.form_instr _
theorem FormOf.res_7_c : FormOf.Statement (.res_7_c) := Machine.form_instr _
theorem FormOf.res_7_d : FormOf.Statement (.res_7_d) := Machine.form_instr _
theorem FormOf.res_7_e : FormOf.Statement (.res_7_e) := Machine.form_instr _
theorem FormOf.res_7_h : FormOf.Statement (.res_7_h) := Machine.form_instr _
theorem FormOf.res_7_l : FormOf.Statement (.res_7_l) := Machine.form_instr _
theorem FormOf.res_7_atHL : FormOf.Statement (.res_7_atHL) := Machine.form_instr _
theorem FormOf.res_7_a : FormOf.Statement (.res_7_a) := Machine.form_instr _
theorem FormOf.set_0_b : FormOf.Statement (.set_0_b) := Machine.form_instr _
theorem FormOf.set_0_c : FormOf.Statement (.set_0_c) := Machine.form_instr _
theorem FormOf.set_0_d : FormOf.Statement (.set_0_d) := Machine.form_instr _
theorem FormOf.set_0_e : FormOf.Statement (.set_0_e) := Machine.form_instr _
theorem FormOf.set_0_h : FormOf.Statement (.set_0_h) := Machine.form_instr _
theorem FormOf.set_0_l : FormOf.Statement (.set_0_l) := Machine.form_instr _
theorem FormOf.set_0_atHL : FormOf.Statement (.set_0_atHL) := Machine.form_instr _
theorem FormOf.set_0_a : FormOf.Statement (.set_0_a) := Machine.form_instr _
theorem FormOf.set_1_b : FormOf.Statement (.set_1_b) := Machine.form_instr _
theorem FormOf.set_1_c : FormOf.Statement (.set_1_c) := Machine.form_instr _
theorem FormOf.set_1_d : FormOf.Statement (.set_1_d) := Machine.form_instr _
theorem FormOf.set_1_e : FormOf.Statement (.set_1_e) := Machine.form_instr _
theorem FormOf.set_1_h : FormOf.Statement (.set_1_h) := Machine.form_instr _
theorem FormOf.set_1_l : FormOf.Statement (.set_1_l) := Machine.form_instr _
theorem FormOf.set_1_atHL : FormOf.Statement (.set_1_atHL) := Machine.form_instr _
theorem FormOf.set_1_a : FormOf.Statement (.set_1_a) := Machine.form_instr _
theorem FormOf.set_2_b : FormOf.Statement (.set_2_b) := Machine.form_instr _
theorem FormOf.set_2_c : FormOf.Statement (.set_2_c) := Machine.form_instr _
theorem FormOf.set_2_d : FormOf.Statement (.set_2_d) := Machine.form_instr _
theorem FormOf.set_2_e : FormOf.Statement (.set_2_e) := Machine.form_instr _
theorem FormOf.set_2_h : FormOf.Statement (.set_2_h) := Machine.form_instr _
theorem FormOf.set_2_l : FormOf.Statement (.set_2_l) := Machine.form_instr _
theorem FormOf.set_2_atHL : FormOf.Statement (.set_2_atHL) := Machine.form_instr _
theorem FormOf.set_2_a : FormOf.Statement (.set_2_a) := Machine.form_instr _
theorem FormOf.set_3_b : FormOf.Statement (.set_3_b) := Machine.form_instr _
theorem FormOf.set_3_c : FormOf.Statement (.set_3_c) := Machine.form_instr _
theorem FormOf.set_3_d : FormOf.Statement (.set_3_d) := Machine.form_instr _
theorem FormOf.set_3_e : FormOf.Statement (.set_3_e) := Machine.form_instr _
theorem FormOf.set_3_h : FormOf.Statement (.set_3_h) := Machine.form_instr _
theorem FormOf.set_3_l : FormOf.Statement (.set_3_l) := Machine.form_instr _
theorem FormOf.set_3_atHL : FormOf.Statement (.set_3_atHL) := Machine.form_instr _
theorem FormOf.set_3_a : FormOf.Statement (.set_3_a) := Machine.form_instr _
theorem FormOf.set_4_b : FormOf.Statement (.set_4_b) := Machine.form_instr _
theorem FormOf.set_4_c : FormOf.Statement (.set_4_c) := Machine.form_instr _
theorem FormOf.set_4_d : FormOf.Statement (.set_4_d) := Machine.form_instr _
theorem FormOf.set_4_e : FormOf.Statement (.set_4_e) := Machine.form_instr _
theorem FormOf.set_4_h : FormOf.Statement (.set_4_h) := Machine.form_instr _
theorem FormOf.set_4_l : FormOf.Statement (.set_4_l) := Machine.form_instr _
theorem FormOf.set_4_atHL : FormOf.Statement (.set_4_atHL) := Machine.form_instr _
theorem FormOf.set_4_a : FormOf.Statement (.set_4_a) := Machine.form_instr _
theorem FormOf.set_5_b : FormOf.Statement (.set_5_b) := Machine.form_instr _
theorem FormOf.set_5_c : FormOf.Statement (.set_5_c) := Machine.form_instr _
theorem FormOf.set_5_d : FormOf.Statement (.set_5_d) := Machine.form_instr _
theorem FormOf.set_5_e : FormOf.Statement (.set_5_e) := Machine.form_instr _
theorem FormOf.set_5_h : FormOf.Statement (.set_5_h) := Machine.form_instr _
theorem FormOf.set_5_l : FormOf.Statement (.set_5_l) := Machine.form_instr _
theorem FormOf.set_5_atHL : FormOf.Statement (.set_5_atHL) := Machine.form_instr _
theorem FormOf.set_5_a : FormOf.Statement (.set_5_a) := Machine.form_instr _
theorem FormOf.set_6_b : FormOf.Statement (.set_6_b) := Machine.form_instr _
theorem FormOf.set_6_c : FormOf.Statement (.set_6_c) := Machine.form_instr _
theorem FormOf.set_6_d : FormOf.Statement (.set_6_d) := Machine.form_instr _
theorem FormOf.set_6_e : FormOf.Statement (.set_6_e) := Machine.form_instr _
theorem FormOf.set_6_h : FormOf.Statement (.set_6_h) := Machine.form_instr _
theorem FormOf.set_6_l : FormOf.Statement (.set_6_l) := Machine.form_instr _
theorem FormOf.set_6_atHL : FormOf.Statement (.set_6_atHL) := Machine.form_instr _
theorem FormOf.set_6_a : FormOf.Statement (.set_6_a) := Machine.form_instr _
theorem FormOf.set_7_b : FormOf.Statement (.set_7_b) := Machine.form_instr _
theorem FormOf.set_7_c : FormOf.Statement (.set_7_c) := Machine.form_instr _
theorem FormOf.set_7_d : FormOf.Statement (.set_7_d) := Machine.form_instr _
theorem FormOf.set_7_e : FormOf.Statement (.set_7_e) := Machine.form_instr _
theorem FormOf.set_7_h : FormOf.Statement (.set_7_h) := Machine.form_instr _
theorem FormOf.set_7_l : FormOf.Statement (.set_7_l) := Machine.form_instr _
theorem FormOf.set_7_atHL : FormOf.Statement (.set_7_atHL) := Machine.form_instr _
theorem FormOf.set_7_a : FormOf.Statement (.set_7_a) := Machine.form_instr _

end Sys2Proof.Laws
end

