-- ==== Sys2Proof/Laws/Result.lean ====
section
/-! SUPPORT. Everything an instruction can do, said once: `run_eq` gives, for every form, the state it ends in when the
bus accepts its accesses, and the BusFault it raises otherwise. Every later proof about `exec` starts from it. -/

namespace Sys2Proof

open Machine

/-- The state at the end of an executor whose accesses the bus accepts. -/
def Form.result (o : Form) (s : State) : State :=
  match o with
  | .ldRegReg rd rs => retire 1 4 (s.setReg rd (s.reg rs))
  | .ldRegMem rd => retire 1 8 ({ s with bus := s.bus.afterRead s.hl }.setReg rd (s.bus.peek s.hl))
  | .ldMemReg rs => retire 1 8 { s with bus := s.bus.afterWrite s.hl (s.reg rs) }
  | .ldRegImm rd n => retire 2 8 (s.setReg rd n)
  | .ldMemImm n => retire 2 12 { s with bus := s.bus.afterWrite s.hl n }
  | .ldAPtr p => retire 1 8 { s with a := s.bus.peek (s.ptr p), bus := s.bus.afterRead (s.ptr p) }
  | .ldPtrA p => retire 1 8 { s with bus := s.bus.afterWrite (s.ptr p) s.a }
  | .ldAHli => retire 1 8 ({ s with a := s.bus.peek s.hl, bus := s.bus.afterRead s.hl }.setPair .hl (s.hl + 1))
  | .ldAHld =>
    retire 1 8 ({ s with a := s.bus.peek s.hl, bus := s.bus.afterRead s.hl }.setPair .hl (s.hl + 0xFFFF))
  | .ldHliA => retire 1 8 ({ s with bus := s.bus.afterWrite s.hl s.a }.setPair .hl (s.hl + 1))
  | .ldHldA => retire 1 8 ({ s with bus := s.bus.afterWrite s.hl s.a }.setPair .hl (s.hl + 0xFFFF))
  | .ldAAbs a => retire 3 16 { s with a := s.bus.peek a, bus := s.bus.afterRead a }
  | .ldAbsA a => retire 3 16 { s with bus := s.bus.afterWrite a s.a }
  | .ldhAImm n => retire 2 12 { s with a := s.bus.peek (highPage n), bus := s.bus.afterRead (highPage n) }
  | .ldhImmA n => retire 2 12 { s with bus := s.bus.afterWrite (highPage n) s.a }
  | .ldhAC => retire 1 8 { s with a := s.bus.peek (highPage s.c), bus := s.bus.afterRead (highPage s.c) }
  | .ldhCA => retire 1 8 { s with bus := s.bus.afterWrite (highPage s.c) s.a }
  | .ldPairImm p n => retire 3 12 (s.setPair p n)
  | .ldAbsSp a => retire 3 20 { s with bus := s.bus.afterWriteWord a s.sp }
  | .ldSpHl => retire 1 8 { s with sp := s.hl }
  | .ldHlSp e => retire 2 12 ((s.setPair .hl (addSpDisp s.sp e).1).setFlags (addSpDisp s.sp e).2)
  | .push p =>
    retire 1 16 { s with sp := s.sp - 2, bus := s.bus.afterWriteWord (s.sp - 2) (s.stackPair p) }
  | .pop p =>
    retire 1 12 ({ s with sp := s.sp + 2, bus := s.bus.afterReadWord s.sp }.setStackPair p (s.bus.peekWord s.sp))
  | .alu op x => retire 1 (r8Cost x 4 8) ({ s with bus := x.busAfterRead s }.applyAlu op (x.value s))
  | .aluImm op n => retire 2 8 (s.applyAlu op n)
  | .incR8 x =>
    retire 1 (r8Cost x 4 12) ((x.update (inc8 (x.value s) s.flags).1 s).setFlags (inc8 (x.value s) s.flags).2)
  | .decR8 x =>
    retire 1 (r8Cost x 4 12) ((x.update (dec8 (x.value s) s.flags).1 s).setFlags (dec8 (x.value s) s.flags).2)
  | .daa => retire 1 4 ({ s with a := (daa8 s.a s.flags).1 }.setFlags (daa8 s.a s.flags).2)
  | .cpl => retire 1 4 ({ s with a := ~~~s.a }.setFlags (cplFlags s.flags))
  | .scf => retire 1 4 (s.setFlags (scfFlags s.flags))
  | .ccf => retire 1 4 (s.setFlags (ccfFlags s.flags))
  | .addHl p =>
    retire 1 8 ((s.setPair .hl (addHl16 s.hl (s.pair p) s.flags).1).setFlags (addHl16 s.hl (s.pair p) s.flags).2)
  | .incPair p => retire 1 8 (s.setPair p (s.pair p + 1))
  | .decPair p => retire 1 8 (s.setPair p (s.pair p - 1))
  | .addSp e => retire 2 16 ({ s with sp := (addSpDisp s.sp e).1 }.setFlags (addSpDisp s.sp e).2)
  | .rlca => retire 1 4 ({ s with a := (rotResult .rlc s.a s.flags.c).1 }.setFlags
      (rotAccFlags (rotResult .rlc s.a s.flags.c)))
  | .rrca => retire 1 4 ({ s with a := (rotResult .rrc s.a s.flags.c).1 }.setFlags
      (rotAccFlags (rotResult .rrc s.a s.flags.c)))
  | .rla => retire 1 4 ({ s with a := (rotResult .rl s.a s.flags.c).1 }.setFlags
      (rotAccFlags (rotResult .rl s.a s.flags.c)))
  | .rra => retire 1 4 ({ s with a := (rotResult .rr s.a s.flags.c).1 }.setFlags
      (rotAccFlags (rotResult .rr s.a s.flags.c)))
  | .rot op x => retire 2 (r8Cost x 8 16) ((x.update (rotResult op (x.value s) s.flags.c).1 s).setFlags
      (rotCbFlags (rotResult op (x.value s) s.flags.c)))
  | .bit n x =>
    retire 2 (r8Cost x 8 12) ({ s with bus := x.busAfterRead s }.setFlags (bitFlags n (x.value s) s.flags))
  | .res n x => retire 2 (r8Cost x 8 16) (x.update (resBit n (x.value s)) s)
  | .set n x => retire 2 (r8Cost x 8 16) (x.update (setBit n (x.value s)) s)
  | .jp a => jumpTo a 16 s
  | .jpCc cc a => if condHolds cc s.flags then jumpTo a 16 s else retire 3 12 s
  | .jpHl => jumpTo s.hl 4 s
  | .jr e => jumpTo (jrTarget s.pc e) 12 s
  | .jrCc cc e => if condHolds cc s.flags then jumpTo (jrTarget s.pc e) 12 s else retire 2 8 s
  | .call a => jumpTo a 24 { s with sp := s.sp - 2, bus := s.bus.afterWriteWord (s.sp - 2) (s.pc + 3) }
  | .callCc cc a =>
    if condHolds cc s.flags then
      jumpTo a 24 { s with sp := s.sp - 2, bus := s.bus.afterWriteWord (s.sp - 2) (s.pc + 3) }
    else retire 3 12 s
  | .rst t =>
    jumpTo (rstTarget t) 16 { s with sp := s.sp - 2, bus := s.bus.afterWriteWord (s.sp - 2) (s.pc + 1) }
  | .ret => jumpTo (s.bus.peekWord s.sp) 16 { s with sp := s.sp + 2, bus := s.bus.afterReadWord s.sp }
  | .retCc cc =>
    if condHolds cc s.flags then
      jumpTo (s.bus.peekWord s.sp) 20 { s with sp := s.sp + 2, bus := s.bus.afterReadWord s.sp }
    else retire 1 8 s
  | .reti => jumpTo (s.bus.peekWord s.sp) 16
      { s with sp := s.sp + 2, bus := s.bus.afterReadWord s.sp, ime := true, imePending := false }
  | .nop => retire 1 4 s
  | .halt => retire 1 4 { s with run := .halted }
  | .stop _ => retire 2 4 { s with run := .stopped }
  | .di => retire 1 4 { s with ime := false, imePending := false }
  | .ei => retire 1 4 { s with imePending := true }

namespace Machine

/-- A load: one read. -/
theorem loadReg_eq (rd : Reg) (a len : Word) (n : Count) (s : State) : loadReg rd a len n s =
    guarded s.pc s.bus [.read a] (retire len n ({ s with bus := s.bus.afterRead a }.setReg rd (s.bus.peek a))) := by
  unfold loadReg
  rw [readByte_eq]
  exact andThen_guarded_next _ _ _ rfl

/-- A store: one write. -/
theorem storeByte_eq (a : Word) (v : Byte) (len : Word) (n : Count) (s : State) : storeByte a v len n s =
    guarded s.pc s.bus [.write a v] (retire len n { s with bus := s.bus.afterWrite a v }) := by
  unfold storeByte
  rw [writeByte_eq]
  exact andThen_guarded_next _ _ _ rfl

theorem callTo_eq (t len : Word) (n : Count) (s : State) : callTo t len n s =
    guarded s.pc s.bus (wordWrites (s.sp - 2) (s.pc + len))
      (jumpTo t n { s with sp := s.sp - 2, bus := s.bus.afterWriteWord (s.sp - 2) (s.pc + len) }) := by
  unfold callTo
  rw [pushWord_eq]
  exact andThen_guarded_next _ _ _ rfl

theorem returnTo_eq (n : Count) (s : State) : returnTo n s = guarded s.pc s.bus (wordReads s.sp)
    (jumpTo (s.bus.peekWord s.sp) n { s with sp := s.sp + 2, bus := s.bus.afterReadWord s.sp }) := by
  unfold returnTo
  rw [popWord_eq]
  exact andThen_guarded_next _ _ _ rfl

theorem returnFromInterrupt_eq (n : Count) (s : State) : returnFromInterrupt n s =
    guarded s.pc s.bus (wordReads s.sp) (jumpTo (s.bus.peekWord s.sp) n
      { s with sp := s.sp + 2, bus := s.bus.afterReadWord s.sp, ime := true, imePending := false }) := by
  unfold returnFromInterrupt
  rw [popWord_eq]
  exact andThen_guarded_next _ _ _ rfl

theorem enterInterrupt_eq (v : Word) (s : State) : enterInterrupt v s =
    guarded s.pc s.bus (wordWrites (s.sp - 2) s.pc) (jumpTo v Config.interruptEntryCycles
      { s with
        ime := false, imePending := false, run := .running, sp := s.sp - 2,
        bus := s.bus.afterWriteWord (s.sp - 2) s.pc }) := by
  unfold enterInterrupt
  rw [pushWord_eq]
  exact andThen_guarded_next _ _ _ rfl

/-- An operation that reads `r8[k]`, writes it and then ends. -/
theorem updateR8_eq (x : R8) (g : Byte → Byte) (k : Byte → State → State) (s : State) :
    andThen (readR8 x s) (fun r => andThen (writeR8 x (g r.1) r.2) fun t => .next (k r.1 t)) =
      guarded s.pc s.bus (x.reads s ++ x.writes (g (x.value s)) s) (k (x.value s) (x.update (g (x.value s)) s)) := by
  rw [readR8_eq]
  refine andThen_guarded _ _ _ ?_
  dsimp only
  rw [writeR8_eq]
  exact andThen_guarded_next _ _ _ rfl

/-- The result of a rotate, shift or SWAP is the one of its rule. -/
theorem rotResult_fst (op : RotOp) (c : Bool) : ∀ v : Byte,
    (rotResult op v c).1 = BitVec.ofNat 8 (op.rule v.toNat c.toNat).1 := by
  cases op <;> cases c <;> decide

theorem octNat_eq_code (n : Oct) : octNat n = n.code.toNat := by cases n <;> rfl

/-- Everything an instruction can do. -/
theorem run_eq (o : Form) (s : State) : Form.run o s = guarded s.pc s.bus (o.calls s) (o.result s) := by
  cases o with
  | ldRegMem rd => exact loadReg_eq ..
  | ldAPtr p => exact loadReg_eq ..
  | ldAAbs a => exact loadReg_eq ..
  | ldhAImm n => exact loadReg_eq ..
  | ldhAC => exact loadReg_eq ..
  | ldMemReg rs => exact storeByte_eq ..
  | ldMemImm n => exact storeByte_eq ..
  | ldPtrA p => exact storeByte_eq ..
  | ldAbsA a => exact storeByte_eq ..
  | ldhImmA n => exact storeByte_eq ..
  | ldhCA => exact storeByte_eq ..
  | ldAHli | ldAHld =>
    simp only [Form.run, opLdAHli, opLdAHld, loadAStep, readByte_eq]
    exact andThen_guarded_next _ _ _ rfl
  | ldHliA | ldHldA =>
    simp only [Form.run, opLdHliA, opLdHldA, storeAStep, writeByte_eq]
    exact andThen_guarded_next _ _ _ rfl
  | ldAbsSp a =>
    simp only [Form.run, opLdAbsSp, writeWord_eq]
    exact andThen_guarded_next _ _ _ rfl
  | push p =>
    simp only [Form.run, opPush, pushWord_eq]
    exact andThen_guarded_next _ _ _ rfl
  | pop p =>
    simp only [Form.run, opPop, popWord_eq]
    exact andThen_guarded_next _ _ _ rfl
  | alu op x =>
    simp only [Form.run, opAlu, readR8_eq]
    exact andThen_guarded_next _ _ _ rfl
  | bit n x =>
    simp only [Form.run, opBit, readR8_eq]
    exact andThen_guarded_next _ _ _ rfl
  | incR8 x => exact updateR8_eq x (fun v => (inc8 v s.flags).1) (fun v t => retire 1 (r8Cost x 4 12) (t.setFlags (inc8 v s.flags).2)) s
  | decR8 x => exact updateR8_eq x (fun v => (dec8 v s.flags).1) (fun v t => retire 1 (r8Cost x 4 12) (t.setFlags (dec8 v s.flags).2)) s
  | rot op x =>
    rw [Form.calls, ← rotResult_fst]
    exact updateR8_eq x (fun v => (rotResult op v s.flags.c).1)
      (fun v t => retire 2 (r8Cost x 8 16) (t.setFlags (rotCbFlags (rotResult op v s.flags.c)))) s
  | res n x =>
    rw [Form.calls, ← octNat_eq_code]
    exact updateR8_eq x (resBit n) (fun _ t => retire 2 (r8Cost x 8 16) t) s
  | set n x =>
    rw [Form.calls, ← octNat_eq_code]
    exact updateR8_eq x (setBit n) (fun _ t => retire 2 (r8Cost x 8 16) t) s
  | jpCc cc a | jrCc cc e => simp only [Form.run, opJpCc, opJrCc, jumpIf, Form.calls, Form.result]; split <;> rfl
  | call a => exact callTo_eq ..
  | rst t => exact callTo_eq ..
  | callCc cc a =>
    simp only [Form.run, opCallCc, Form.calls, Form.result]
    split
    · exact callTo_eq ..
    · rfl
  | ret => exact returnTo_eq ..
  | retCc cc =>
    simp only [Form.run, opRetCc, Form.calls, Form.result]
    split
    · exact returnTo_eq ..
    · rfl
  | reti => exact returnFromInterrupt_eq ..
  | _ => rfl

/-- The bus after `r8[k]` was read and written is the bus after those calls. -/
theorem update_bus (x : R8) (v : Byte) (s : State) :
    (x.update v s).bus = s.bus.afterCalls (x.reads s ++ x.writes v s) := by
  rcases x with r | _
  · cases r <;> rfl
  · rfl

theorem busAfterRead_eq (x : R8) (s : State) : x.busAfterRead s = s.bus.afterCalls (x.reads s) := by
  cases x <;> rfl

/-- The bus an instruction ends with is the one its calls leave, one after another. -/
theorem result_bus (o : Form) (s : State) : (o.result s).bus = s.bus.afterCalls (o.calls s) := by
  cases o with
  | rot op x => rw [Form.calls, ← rotResult_fst]; exact update_bus ..
  | res n x => rw [Form.calls, ← octNat_eq_code]; exact update_bus ..
  | set n x => rw [Form.calls, ← octNat_eq_code]; exact update_bus ..
  | incR8 x | decR8 x => exact update_bus ..
  | alu op x | bit n x => exact busAfterRead_eq ..
  | callCc cc a | retCc cc | jpCc cc a | jrCc cc e => simp only [Form.result, Form.calls]; split <;> rfl
  | ldRegReg rd _ | ldRegMem rd | ldRegImm rd _ => cases rd <;> rfl
  | ldPairImm p _ | incPair p | decPair p | pop p => cases p <;> rfl
  | _ => rfl

/-- The memory of the state an instruction ends in keeps its canonical form. -/
theorem result_wf (o : Form) {s : State} (h : s.bus.mem.wf = true) : (o.result s).bus.mem.wf = true := by
  rw [result_bus]
  exact afterCalls_wf _ _ h

/-- Everything an instruction can do, for `exec`. -/
theorem exec_eq (o : Form) (s : State) : exec o.instr s = guarded s.pc s.bus (o.calls s) (o.result s) := by
  rw [exec_form, run_eq]

/-- If an instruction reaches a state, it is its form's result, and the bus accepted its accesses. -/
theorem exec_inversion {i : Instr} {s t : State} (h : exec i s = .next t) :
    t = i.form.result s ∧ s.accepts (i.form.calls s) = true := by
  rw [exec_eq_run, run_eq] at h
  exact guarded_eq_next _ _ _ h

end Machine

end Sys2Proof
end

