-- ==== Sys2Proof/Laws/Step.lean ====
section
/-! SUPPORT. What a fetch and a step can do, said once: `fetch_eq` gives the accesses of the fetch and the instruction it
answers by the shape of the first byte, `fetch_decode` ties it to the decoder, and `follows_of` leaves of a rule
`Form.Follows` only its encoding and its next state. -/

namespace Sys2Proof

open Machine

/-- How many bytes the first byte's shape makes the decoder read. -/
def Shape.length (x : Shape) : Nat :=
  match x with
  | .plain _ => 1
  | .imm8 _ => 2
  | .imm16 _ => 3
  | .prefixCB => 2
  | .undefined => 0

/-- The form that a shape makes of the two bytes after the first. -/
def Shape.form (x : Shape) (b1 b2 : Byte) : Form :=
  match x with
  | .plain o => o
  | .imm8 o => o b1
  | .imm16 o => o (pairOf b2 b1)
  | .prefixCB => cbForm b1
  | .undefined => .nop

/-- The encoder's length is the length its first byte gives. -/
theorem encode_length (i : Instr) : (encode i).length = (baseShape ((encode i).headD 0)).length := by
  cases i <;> first | rfl | (simp only [encode, List.headD_cons]; rfl)

theorem encode_ne_nil (i : Instr) : encode i ≠ [] := by
  cases i <;> exact List.cons_ne_nil _ _

namespace Machine

variable (s : State)

/-! ## The bytes, reads and events of a fetch -/

@[simp] theorem bytesAtPc_one : s.bytesAtPc 1 = [s.bus.peek s.pc] := by
  simp [State.bytesAtPc, List.range_succ]

@[simp] theorem bytesAtPc_two : s.bytesAtPc 2 = [s.bus.peek s.pc, s.bus.peek (s.pc + 1)] := by
  simp [State.bytesAtPc, List.range_succ]

@[simp] theorem bytesAtPc_three :
    s.bytesAtPc 3 = [s.bus.peek s.pc, s.bus.peek (s.pc + 1), s.bus.peek (s.pc + 2)] := by
  simp [State.bytesAtPc, List.range_succ]

@[simp] theorem fetchReads_zero : s.fetchReads 0 = [] := rfl

@[simp] theorem fetchReads_one : s.fetchReads 1 = [.read s.pc] := by
  simp [State.fetchReads, List.range_succ]

@[simp] theorem fetchReads_two : s.fetchReads 2 = [.read s.pc, .read (s.pc + 1)] := by
  simp [State.fetchReads, List.range_succ]

@[simp] theorem fetchReads_three : s.fetchReads 3 = [.read s.pc, .read (s.pc + 1), .read (s.pc + 2)] := by
  simp [State.fetchReads, List.range_succ]

theorem afterFetch_one : s.afterFetch 1 = { s with bus := s.bus.afterRead s.pc } := by
  simp [State.afterFetch, Bus.afterRead]

theorem afterFetch_two :
    s.afterFetch 2 = { s with bus := (s.bus.afterRead s.pc).afterRead (s.pc + 1) } := by
  simp [State.afterFetch, Bus.afterRead]

theorem afterFetch_three : s.afterFetch 3 =
    { s with bus := ((s.bus.afterRead s.pc).afterRead (s.pc + 1)).afterRead (s.pc + 2) } := by
  simp [State.afterFetch, Bus.afterRead]

@[simp] theorem afterFetch_pc (n : Nat) : (s.afterFetch n).pc = s.pc := rfl
@[simp] theorem afterFetch_sp (n : Nat) : (s.afterFetch n).sp = s.sp := rfl
@[simp] theorem afterFetch_f (n : Nat) : (s.afterFetch n).f = s.f := rfl
@[simp] theorem afterFetch_run (n : Nat) : (s.afterFetch n).run = s.run := rfl
@[simp] theorem afterFetch_ime (n : Nat) : (s.afterFetch n).ime = s.ime := rfl
@[simp] theorem afterFetch_imePending (n : Nat) : (s.afterFetch n).imePending = s.imePending := rfl
@[simp] theorem afterFetch_cycles (n : Nat) : (s.afterFetch n).cycles = s.cycles := rfl
@[simp] theorem afterFetch_reg (n : Nat) (r : Reg) : (s.afterFetch n).reg r = s.reg r := by cases r <;> rfl
@[simp] theorem afterFetch_mem (n : Nat) : (s.afterFetch n).bus.mem = s.bus.mem := rfl
@[simp] theorem afterFetch_peek (n : Nat) (a : Word) : (s.afterFetch n).bus.peek a = s.bus.peek a := rfl
@[simp] theorem afterFetch_rejects (n : Nat) (k : Access) (a : Word) :
    (s.afterFetch n).bus.rejects k a = s.bus.rejects k a := rfl
@[simp] theorem afterFetch_accepts (n : Nat) (l : List BusEvent) :
    (s.afterFetch n).accepts l = s.accepts l := rfl

/-- The fetch moves no operand, so the executor's calls are those of the state before it. -/
@[simp] theorem afterFetch_calls (n : Nat) (o : Form) : o.calls (s.afterFetch n) = o.calls s := by cases o <;> rfl

/-- The bus after a fetch is the bus after its reads. -/
theorem afterFetch_bus (n : Nat) : (s.afterFetch n).bus = s.bus.afterCalls (s.fetchReads n) := by
  show ({ s.bus with events := s.bus.events ++ s.fetchReads n } : Bus) = _
  unfold State.fetchReads
  induction n with
  | zero => simp
  | succ n ih =>
    rw [List.range_succ, List.map_append, afterCalls_append, ← ih]
    simp [Bus.afterRead]

/-! ## The fetch -/

/-- Everything a fetch can do, by the shape of the byte at PC. -/
theorem fetch_eq : fetch s =
    match baseShape (s.bus.peek s.pc) with
    | .undefined =>
      if s.bus.rejects .read s.pc then .fault (.busFault s.pc .read s.pc s.bus)
      else .fault (.invalidOpcode (s.bus.peek s.pc) s.pc)
    | x => guarded s.pc s.bus (s.fetchReads x.length)
        ((x.form (s.bus.peek (s.pc + 1)) (s.bus.peek (s.pc + 2))).instr, s.afterFetch x.length) := by
  unfold fetch
  rw [readByte_eq]
  cases hx : baseShape (s.bus.peek s.pc) with
  | plain o =>
    simp only [Shape.length, Shape.form, fetchReads_one, afterFetch_one]
    exact andThen_guarded_next _ _ _ (by simp [hx])
  | imm8 o =>
    simp only [Shape.length, Shape.form, fetchReads_two, afterFetch_two]
    refine andThen_guarded _ _ _ (l' := [.read (s.pc + 1)]) ?_
    simp only [hx, readByte_eq]
    exact andThen_guarded_next _ _ _ rfl
  | imm16 o =>
    simp only [Shape.length, Shape.form, fetchReads_three, afterFetch_three]
    refine andThen_guarded _ _ _ (l' := [.read (s.pc + 1), .read (s.pc + 2)]) ?_
    simp only [hx, readByte_eq]
    refine andThen_guarded _ _ _ (l' := [.read (s.pc + 2)]) ?_
    exact andThen_guarded_next _ _ _ rfl
  | prefixCB =>
    simp only [Shape.length, Shape.form, fetchReads_two, afterFetch_two]
    refine andThen_guarded _ _ _ (l' := [.read (s.pc + 1)]) ?_
    simp only [hx, readByte_eq]
    exact andThen_guarded_next _ _ _ rfl
  | undefined =>
    rw [guarded_cons, guarded_nil]
    split <;> simp_all [BusEvent.access]

/-- What the decoder reads from three bytes. -/
theorem decode_three (b0 b1 b2 : Byte) : decode [b0, b1, b2] =
    match baseShape b0 with
    | .undefined => .undefinedOpcode b0
    | x => .instr (x.form b1 b2).instr ([b0, b1, b2].drop x.length) := by
  unfold decode decodeForm
  cases h : baseShape b0 <;> simp [h, Shape.form, Shape.length]

/-- When the bytes at PC decode, the fetch reads exactly the instruction's bytes and answers it. -/
theorem fetch_decode {i : Instr} {rest : List Byte} (h : decode (s.bytesAtPc 3) = .instr i rest) :
    fetch s = guarded s.pc s.bus (s.fetchReads (3 - rest.length)) (i, s.afterFetch (3 - rest.length)) := by
  rw [bytesAtPc_three, decode_three] at h
  rw [fetch_eq]
  cases hx : baseShape (s.bus.peek s.pc) <;> rw [hx] at h <;> cases h <;> rfl

/-- When the byte at PC is an undefined opcode, the fetch ends there. -/
theorem fetch_undefined {op : Byte} (h : decode (s.bytesAtPc 3) = .undefinedOpcode op) :
    op = s.bus.peek s.pc ∧ fetch s =
      if s.bus.rejects .read s.pc then .fault (.busFault s.pc .read s.pc s.bus)
      else .fault (.invalidOpcode op s.pc) := by
  rw [bytesAtPc_three, decode_three] at h
  rw [fetch_eq]
  cases hx : baseShape (s.bus.peek s.pc) <;> rw [hx] at h <;> cases h
  exact ⟨rfl, rfl⟩

/-- A fetch decodes an instruction or meets an undefined opcode: three bytes are never truncated. -/
theorem decode_bytesAtPc : (∃ i rest, decode (s.bytesAtPc 3) = .instr i rest) ∨
    ∃ op, decode (s.bytesAtPc 3) = .undefinedOpcode op := by
  rw [bytesAtPc_three, decode_three]
  cases baseShape (s.bus.peek s.pc) <;> simp

/-- A read that the bus rejects ends the fetch there. -/
theorem fetch_rejected {k : Nat} (hk : k = 0 ∨ k < (baseShape (s.bus.peek s.pc)).length)
    (ha : s.accepts (s.fetchReads k) = true) (hr : s.bus.rejects .read (s.pc + BitVec.ofNat 16 k) = true) :
    fetch s =
      .fault (.busFault (s.pc + BitVec.ofNat 16 k) .read s.pc (s.bus.afterCalls (s.fetchReads k))) := by
  have hk3 : k = 0 ∨ k = 1 ∨ k = 2 := by
    rcases hk with h | h
    · exact .inl h
    · cases hx : baseShape (s.bus.peek s.pc) <;> rw [hx] at h <;> simp only [Shape.length] at h <;> omega
  rw [fetch_eq]
  rcases hk3 with rfl | rfl | rfl <;> cases hx : baseShape (s.bus.peek s.pc) <;>
    simp_all [Shape.length, guarded_cons, State.accepts, BusEvent.access]

end Machine

/-- Every instruction's fetch ends at its first rejected byte. -/
theorem fetchFaults (i : Instr) : FetchFaults i := by
  intro s k hrun hk hb ha hr
  have hf : fetch s =
      .fault (.busFault (s.pc + BitVec.ofNat 16 k) .read s.pc (s.bus.afterCalls (s.fetchReads k))) := by
    refine fetch_rejected s ?_ ha hr
    rcases Nat.eq_zero_or_pos k with h0 | hpos
    · exact .inl h0
    · right
      have hl : encode i = (encode i).headD 0 :: (encode i).tail := by
        cases h : encode i with
        | nil => exact absurd h (encode_ne_nil i)
        | cons b rest => rfl
      obtain ⟨m, rfl⟩ := Nat.exists_eq_add_of_le' hpos
      have hh : s.bus.peek s.pc = (encode i).headD 0 := by
        rw [hl, List.take_succ_cons] at hb
        simp only [State.bytesAtPc, List.range_succ_eq_map, List.map_cons, List.cons.injEq] at hb
        simpa using hb.1
      rw [hh, ← encode_length]
      exact hk
  unfold step
  rw [hrun]
  simp [hf]

/-- Every form reports the first access that the bus rejects. -/
theorem accessFaults (o : Form) : AccessFaults o := by
  intro s before after e h ha he
  rw [exec_eq, h]
  exact guarded_rejected _ _ _ ha he

/-- What is left to show that a form follows its rule. -/
theorem follows_of {o : Form} {bytes : List Byte} {result : State → State} (hb : encode o.instr = bytes)
    (hr : ∀ s, o.result s = result s) : o.Follows bytes result where
  encoding := hb
  fetchFaults := fetchFaults _
  accessFaults := accessFaults _
  effect s h := by rw [exec_eq, guarded_accepted _ _ _ h, hr]

namespace Machine

/-! ## The step -/

/-- A running core's step, from its fetch. -/
theorem step_running {s : State} (h : s.run = .running) : step s =
    andThen (fetch s) fun r => andThen (exec r.1 r.2) fun t => .next (promote s.imePending t) := by
  unfold step
  rw [h]

/-- A core that does not run only ticks. -/
theorem step_idle {s : State} (h : s.run ≠ .running) : step s = .next (idleTick s) := by
  unfold step
  cases hr : s.run with
  | running => exact absurd hr h
  | halted => rfl
  | stopped => rfl

/-- Every step that reaches a state is an idle tick, or it fetched an instruction, whose form's result it is. -/
theorem step_inversion {s t : State} (h : step s = .next t) :
    (s.run ≠ .running ∧ t = idleTick s) ∨
    (s.run = .running ∧ ∃ i rest, decode (s.bytesAtPc 3) = .instr i rest ∧
      t = promote s.imePending (i.form.result (s.afterFetch (3 - rest.length))) ∧
      s.accepts (s.fetchReads (3 - rest.length) ++ i.form.calls s) = true) := by
  by_cases hr : s.run = .running
  · right
    rw [step_running hr] at h
    refine ⟨hr, ?_⟩
    rcases decode_bytesAtPc s with ⟨i, rest, hd⟩ | ⟨op, hd⟩
    · refine ⟨i, rest, hd, ?_⟩
      obtain ⟨v, hv, h⟩ := (andThen_eq_next _).1 h
      rw [fetch_decode s hd] at hv
      obtain ⟨rfl, ha⟩ := guarded_eq_next _ _ _ hv
      obtain ⟨u, hu, h⟩ := (andThen_eq_next _).1 h
      obtain ⟨rfl, hb⟩ := exec_inversion hu
      cases h
      refine ⟨rfl, ?_⟩
      simp only [State.accepts, List.all_append, Bool.and_eq_true]
      exact ⟨ha, hb⟩
    · rw [(fetch_undefined s hd).2] at h
      split at h <;> cases h
  · left
    rw [step_idle hr] at h
    cases h
    exact ⟨hr, rfl⟩

end Machine

end Sys2Proof
end

