-- ==== Sys2Proof/Tests/Slice0.lean ====
section
/-! SUPPORT. The model's own tests: every entry of the opcode maps decoded, the well-formedness checks, vectors of
95_test_vectors.md, one step each, and for each obligation with hypotheses a concrete state and operands that meet them.
Expected results come from the spec: the maps of R112 and R113, and the derived vectors. -/

namespace Sys2Proof.Tests

open Machine

/-! ## Helpers -/

/-- The defaults of the derived vectors (95_test_vectors.md section 2): registers 0, SP = 0xFFFE, PC = 0x0100, plain
memory of zeros. -/
def start : State :=
  { State.reset with
    sp := 0xFFFE, pc := 0x0100, bus := { State.reset.bus with mem := { cells := [], openBus := 0x00 } } }

/-- The state with these bytes at an address, and PC there. -/
def atPc (pc : Word) (bs : List Byte) (s : State) : State := { s with pc := pc, bus := s.bus.place pc bs }

/-- The state with one byte of memory set. -/
def poke (a : Word) (v : Byte) (s : State) : State := { s with bus := { s.bus with mem := s.bus.mem.write a v } }

/-- The state with a bus that rejects every access to one address. -/
def holed (a : Word) (s : State) : State :=
  { s with
    bus := { s.bus with faultEnabled := true, holes := [{ lo := a, hi := a, onRead := true, onWrite := true }] } }

/-- The transaction returns this response and ends in this core state, with these bus writes in order. -/
def gives (x : Transaction) (s : State) (r : Response) (core : State) (writes : List (Word × Byte)) : Bool :=
  match transact x s with
  | .next p =>
    p.1 == r && getState p.2 == getState core &&
      (p.2.bus.events.filter fun e => e.access.1 == .write) == writes.map fun w => .write w.1 w.2
  | .fault _ => false
  | .refused _ => false

/-- The step is this fault. -/
def faults (s : State) (r : Fault) : Bool :=
  match step s with
  | .next _ => false
  | .fault r' => r' == r
  | .refused _ => false

/-- The step is a BusFault with this record, these bus events up to it, and this byte at an address on its bus. -/
def busFaults (s : State) (a : Word) (k : Access) (pc0 : Word) (events : List BusEvent) (at_ : Word) (v : Byte) : Bool :=
  match step s with
  | .fault (.busFault a' k' pc0' b) =>
    a' == a && k' == k && pc0' == pc0 && b.events == events && b.mem.read at_ == v
  | _ => false

/-- The answer is a next state. -/
def isNext {α : Type} (x : Result α) : Bool :=
  match x with
  | .next _ => true
  | .fault _ => false
  | .refused _ => false

theorem exists_next {α : Type} {x : Result α} (h : isNext x = true) : ∃ t, x = .next t := by
  cases x with
  | next t => exact ⟨t, rfl⟩
  | fault r => cases h
  | refused r => cases h

/-- The instruction at the head of a byte string. -/
def head (bs : List Byte) : Option Instr :=
  match decode bs with
  | .instr i _ => some i
  | .undefinedOpcode _ => none
  | .truncated => none

/-! ## Well-formed byte strings (WellFormed.lean) -/

theorem test_empty_string_is_refused : hasOpcode [] = false ∧ encodingWellFormed [] = false := by decide

theorem test_undefined_opcode_is_refused : opcodeDefined [0xD3] = false ∧ encodingWellFormed [0xD3] = false := by decide

theorem test_short_string_is_refused : lengthExact [0x3E] = false ∧ encodingWellFormed [0x3E] = false := by decide

theorem test_long_string_is_refused :
    lengthExact [0xCB, 0x00, 0x00] = false ∧ encodingWellFormed [0xCB, 0x00, 0x00] = false := by decide

theorem test_whole_instruction_is_accepted : encodingWellFormed [0x21, 0x34, 0x12] = true := by decide

/-! ## Every entry of the opcode maps: R112 with the bytes 0x34 and 0x12 after the opcode, then R113 -/

theorem test_decode_base_0 : (List.range 16).map (fun k => head [BitVec.ofNat 8 (0x00 + k), 0x34, 0x12]) =
    [some .nop, some (.ld_bc_n16 0x1234), some .ld_atBC_a, some .inc_bc, some .inc_b, some .dec_b,
      some (.ld_b_n8 0x34), some .rlca, some (.ld_atA16_sp 0x1234), some .add_hl_bc, some .ld_a_atBC, some .dec_bc,
      some .inc_c, some .dec_c, some (.ld_c_n8 0x34), some .rrca] := by decide

theorem test_decode_base_1 : (List.range 16).map (fun k => head [BitVec.ofNat 8 (0x10 + k), 0x34, 0x12]) =
    [some (.stop 0x34), some (.ld_de_n16 0x1234), some .ld_atDE_a, some .inc_de, some .inc_d, some .dec_d,
      some (.ld_d_n8 0x34), some .rla, some (.jr_e8 0x34), some .add_hl_de, some .ld_a_atDE, some .dec_de,
      some .inc_e, some .dec_e, some (.ld_e_n8 0x34), some .rra] := by decide

theorem test_decode_base_2 : (List.range 16).map (fun k => head [BitVec.ofNat 8 (0x20 + k), 0x34, 0x12]) =
    [some (.jr_nz_e8 0x34), some (.ld_hl_n16 0x1234), some .ld_atHLI_a, some .inc_hl, some .inc_h, some .dec_h,
      some (.ld_h_n8 0x34), some .daa, some (.jr_z_e8 0x34), some .add_hl_hl, some .ld_a_atHLI, some .dec_hl,
      some .inc_l, some .dec_l, some (.ld_l_n8 0x34), some .cpl] := by decide

theorem test_decode_base_3 : (List.range 16).map (fun k => head [BitVec.ofNat 8 (0x30 + k), 0x34, 0x12]) =
    [some (.jr_nc_e8 0x34), some (.ld_sp_n16 0x1234), some .ld_atHLD_a, some .inc_sp, some .inc_atHL, some .dec_atHL,
      some (.ld_atHL_n8 0x34), some .scf, some (.jr_c_e8 0x34), some .add_hl_sp, some .ld_a_atHLD, some .dec_sp,
      some .inc_a, some .dec_a, some (.ld_a_n8 0x34), some .ccf] := by decide

theorem test_decode_base_4 : (List.range 16).map (fun k => head [BitVec.ofNat 8 (0x40 + k), 0x34, 0x12]) =
    [some .ld_b_b, some .ld_b_c, some .ld_b_d, some .ld_b_e, some .ld_b_h, some .ld_b_l, some .ld_b_atHL,
      some .ld_b_a, some .ld_c_b, some .ld_c_c, some .ld_c_d, some .ld_c_e, some .ld_c_h, some .ld_c_l,
      some .ld_c_atHL, some .ld_c_a] := by decide

theorem test_decode_base_5 : (List.range 16).map (fun k => head [BitVec.ofNat 8 (0x50 + k), 0x34, 0x12]) =
    [some .ld_d_b, some .ld_d_c, some .ld_d_d, some .ld_d_e, some .ld_d_h, some .ld_d_l, some .ld_d_atHL,
      some .ld_d_a, some .ld_e_b, some .ld_e_c, some .ld_e_d, some .ld_e_e, some .ld_e_h, some .ld_e_l,
      some .ld_e_atHL, some .ld_e_a] := by decide

theorem test_decode_base_6 : (List.range 16).map (fun k => head [BitVec.ofNat 8 (0x60 + k), 0x34, 0x12]) =
    [some .ld_h_b, some .ld_h_c, some .ld_h_d, some .ld_h_e, some .ld_h_h, some .ld_h_l, some .ld_h_atHL,
      some .ld_h_a, some .ld_l_b, some .ld_l_c, some .ld_l_d, some .ld_l_e, some .ld_l_h, some .ld_l_l,
      some .ld_l_atHL, some .ld_l_a] := by decide

theorem test_decode_base_7 : (List.range 16).map (fun k => head [BitVec.ofNat 8 (0x70 + k), 0x34, 0x12]) =
    [some .ld_atHL_b, some .ld_atHL_c, some .ld_atHL_d, some .ld_atHL_e, some .ld_atHL_h, some .ld_atHL_l,
      some .halt, some .ld_atHL_a, some .ld_a_b, some .ld_a_c, some .ld_a_d, some .ld_a_e, some .ld_a_h,
      some .ld_a_l, some .ld_a_atHL, some .ld_a_a] := by decide

theorem test_decode_base_8 : (List.range 16).map (fun k => head [BitVec.ofNat 8 (0x80 + k), 0x34, 0x12]) =
    [some .add_a_b, some .add_a_c, some .add_a_d, some .add_a_e, some .add_a_h, some .add_a_l, some .add_a_atHL,
      some .add_a_a, some .adc_a_b, some .adc_a_c, some .adc_a_d, some .adc_a_e, some .adc_a_h, some .adc_a_l,
      some .adc_a_atHL, some .adc_a_a] := by decide

theorem test_decode_base_9 : (List.range 16).map (fun k => head [BitVec.ofNat 8 (0x90 + k), 0x34, 0x12]) =
    [some .sub_b, some .sub_c, some .sub_d, some .sub_e, some .sub_h, some .sub_l, some .sub_atHL, some .sub_a,
      some .sbc_a_b, some .sbc_a_c, some .sbc_a_d, some .sbc_a_e, some .sbc_a_h, some .sbc_a_l, some .sbc_a_atHL,
      some .sbc_a_a] := by decide

theorem test_decode_base_A : (List.range 16).map (fun k => head [BitVec.ofNat 8 (0xA0 + k), 0x34, 0x12]) =
    [some .and_b, some .and_c, some .and_d, some .and_e, some .and_h, some .and_l, some .and_atHL, some .and_a,
      some .xor_b, some .xor_c, some .xor_d, some .xor_e, some .xor_h, some .xor_l, some .xor_atHL,
      some .xor_a] := by decide

theorem test_decode_base_B : (List.range 16).map (fun k => head [BitVec.ofNat 8 (0xB0 + k), 0x34, 0x12]) =
    [some .or_b, some .or_c, some .or_d, some .or_e, some .or_h, some .or_l, some .or_atHL, some .or_a, some .cp_b,
      some .cp_c, some .cp_d, some .cp_e, some .cp_h, some .cp_l, some .cp_atHL, some .cp_a] := by decide

theorem test_decode_base_C : (List.range 16).map (fun k => head [BitVec.ofNat 8 (0xC0 + k), 0x34, 0x12]) =
    [some .ret_nz, some .pop_bc, some (.jp_nz_a16 0x1234), some (.jp_a16 0x1234), some (.call_nz_a16 0x1234),
      some .push_bc, some (.add_a_n8 0x34), some .rst_00, some .ret_z, some .ret, some (.jp_z_a16 0x1234),
      some .swap_h, some (.call_z_a16 0x1234), some (.call_a16 0x1234), some (.adc_a_n8 0x34),
      some .rst_08] := by decide

theorem test_decode_base_D : (List.range 16).map (fun k => head [BitVec.ofNat 8 (0xD0 + k), 0x34, 0x12]) =
    [some .ret_nc, some .pop_de, some (.jp_nc_a16 0x1234), none, some (.call_nc_a16 0x1234), some .push_de,
      some (.sub_n8 0x34), some .rst_10, some .ret_c, some .reti, some (.jp_c_a16 0x1234), none,
      some (.call_c_a16 0x1234), none, some (.sbc_a_n8 0x34), some .rst_18] := by decide

theorem test_decode_base_E : (List.range 16).map (fun k => head [BitVec.ofNat 8 (0xE0 + k), 0x34, 0x12]) =
    [some (.ldh_atA8_a 0x34), some .pop_hl, some .ld_atC_a, none, none, some .push_hl, some (.and_n8 0x34),
      some .rst_20, some (.add_sp_e8 0x34), some .jp_hl, some (.ld_atA16_a 0x1234), none, none, none,
      some (.xor_n8 0x34), some .rst_28] := by decide

theorem test_decode_base_F : (List.range 16).map (fun k => head [BitVec.ofNat 8 (0xF0 + k), 0x34, 0x12]) =
    [some (.ldh_a_atA8 0x34), some .pop_af, some .ld_a_atC, some .di, none, some .push_af, some (.or_n8 0x34),
      some .rst_30, some (.ld_hl_sp_e8 0x34), some .ld_sp_hl, some (.ld_a_atA16 0x1234), some .ei, none, none,
      some (.cp_n8 0x34), some .rst_38] := by decide

theorem test_decode_cb_0 : (List.range 16).map (fun k => head [0xCB, BitVec.ofNat 8 (0x00 + k)]) =
    [some .rlc_b, some .rlc_c, some .rlc_d, some .rlc_e, some .rlc_h, some .rlc_l, some .rlc_atHL, some .rlc_a,
      some .rrc_b, some .rrc_c, some .rrc_d, some .rrc_e, some .rrc_h, some .rrc_l, some .rrc_atHL,
      some .rrc_a] := by decide

theorem test_decode_cb_1 : (List.range 16).map (fun k => head [0xCB, BitVec.ofNat 8 (0x10 + k)]) =
    [some .rl_b, some .rl_c, some .rl_d, some .rl_e, some .rl_h, some .rl_l, some .rl_atHL, some .rl_a, some .rr_b,
      some .rr_c, some .rr_d, some .rr_e, some .rr_h, some .rr_l, some .rr_atHL, some .rr_a] := by decide

theorem test_decode_cb_2 : (List.range 16).map (fun k => head [0xCB, BitVec.ofNat 8 (0x20 + k)]) =
    [some .sla_b, some .sla_c, some .sla_d, some .sla_e, some .sla_h, some .sla_l, some .sla_atHL, some .sla_a,
      some .sra_b, some .sra_c, some .sra_d, some .sra_e, some .sra_h, some .sra_l, some .sra_atHL,
      some .sra_a] := by decide

theorem test_decode_cb_3 : (List.range 16).map (fun k => head [0xCB, BitVec.ofNat 8 (0x30 + k)]) =
    [some .swap_b, some .swap_c, some .swap_d, some .swap_e, some .swap_h, some .swap_l, some .swap_atHL,
      some .swap_a, some .srl_b, some .srl_c, some .srl_d, some .srl_e, some .srl_h, some .srl_l, some .srl_atHL,
      some .srl_a] := by decide

theorem test_decode_cb_4 : (List.range 16).map (fun k => head [0xCB, BitVec.ofNat 8 (0x40 + k)]) =
    [some .bit_0_b, some .bit_0_c, some .bit_0_d, some .bit_0_e, some .bit_0_h, some .bit_0_l, some .bit_0_atHL,
      some .bit_0_a, some .bit_1_b, some .bit_1_c, some .bit_1_d, some .bit_1_e, some .bit_1_h, some .bit_1_l,
      some .bit_1_atHL, some .bit_1_a] := by decide

theorem test_decode_cb_5 : (List.range 16).map (fun k => head [0xCB, BitVec.ofNat 8 (0x50 + k)]) =
    [some .bit_2_b, some .bit_2_c, some .bit_2_d, some .bit_2_e, some .bit_2_h, some .bit_2_l, some .bit_2_atHL,
      some .bit_2_a, some .bit_3_b, some .bit_3_c, some .bit_3_d, some .bit_3_e, some .bit_3_h, some .bit_3_l,
      some .bit_3_atHL, some .bit_3_a] := by decide

theorem test_decode_cb_6 : (List.range 16).map (fun k => head [0xCB, BitVec.ofNat 8 (0x60 + k)]) =
    [some .bit_4_b, some .bit_4_c, some .bit_4_d, some .bit_4_e, some .bit_4_h, some .bit_4_l, some .bit_4_atHL,
      some .bit_4_a, some .bit_5_b, some .bit_5_c, some .bit_5_d, some .bit_5_e, some .bit_5_h, some .bit_5_l,
      some .bit_5_atHL, some .bit_5_a] := by decide

theorem test_decode_cb_7 : (List.range 16).map (fun k => head [0xCB, BitVec.ofNat 8 (0x70 + k)]) =
    [some .bit_6_b, some .bit_6_c, some .bit_6_d, some .bit_6_e, some .bit_6_h, some .bit_6_l, some .bit_6_atHL,
      some .bit_6_a, some .bit_7_b, some .bit_7_c, some .bit_7_d, some .bit_7_e, some .bit_7_h, some .bit_7_l,
      some .bit_7_atHL, some .bit_7_a] := by decide

theorem test_decode_cb_8 : (List.range 16).map (fun k => head [0xCB, BitVec.ofNat 8 (0x80 + k)]) =
    [some .res_0_b, some .res_0_c, some .res_0_d, some .res_0_e, some .res_0_h, some .res_0_l, some .res_0_atHL,
      some .res_0_a, some .res_1_b, some .res_1_c, some .res_1_d, some .res_1_e, some .res_1_h, some .res_1_l,
      some .res_1_atHL, some .res_1_a] := by decide

theorem test_decode_cb_9 : (List.range 16).map (fun k => head [0xCB, BitVec.ofNat 8 (0x90 + k)]) =
    [some .res_2_b, some .res_2_c, some .res_2_d, some .res_2_e, some .res_2_h, some .res_2_l, some .res_2_atHL,
      some .res_2_a, some .res_3_b, some .res_3_c, some .res_3_d, some .res_3_e, some .res_3_h, some .res_3_l,
      some .res_3_atHL, some .res_3_a] := by decide

theorem test_decode_cb_A : (List.range 16).map (fun k => head [0xCB, BitVec.ofNat 8 (0xA0 + k)]) =
    [some .res_4_b, some .res_4_c, some .res_4_d, some .res_4_e, some .res_4_h, some .res_4_l, some .res_4_atHL,
      some .res_4_a, some .res_5_b, some .res_5_c, some .res_5_d, some .res_5_e, some .res_5_h, some .res_5_l,
      some .res_5_atHL, some .res_5_a] := by decide

theorem test_decode_cb_B : (List.range 16).map (fun k => head [0xCB, BitVec.ofNat 8 (0xB0 + k)]) =
    [some .res_6_b, some .res_6_c, some .res_6_d, some .res_6_e, some .res_6_h, some .res_6_l, some .res_6_atHL,
      some .res_6_a, some .res_7_b, some .res_7_c, some .res_7_d, some .res_7_e, some .res_7_h, some .res_7_l,
      some .res_7_atHL, some .res_7_a] := by decide

theorem test_decode_cb_C : (List.range 16).map (fun k => head [0xCB, BitVec.ofNat 8 (0xC0 + k)]) =
    [some .set_0_b, some .set_0_c, some .set_0_d, some .set_0_e, some .set_0_h, some .set_0_l, some .set_0_atHL,
      some .set_0_a, some .set_1_b, some .set_1_c, some .set_1_d, some .set_1_e, some .set_1_h, some .set_1_l,
      some .set_1_atHL, some .set_1_a] := by decide

theorem test_decode_cb_D : (List.range 16).map (fun k => head [0xCB, BitVec.ofNat 8 (0xD0 + k)]) =
    [some .set_2_b, some .set_2_c, some .set_2_d, some .set_2_e, some .set_2_h, some .set_2_l, some .set_2_atHL,
      some .set_2_a, some .set_3_b, some .set_3_c, some .set_3_d, some .set_3_e, some .set_3_h, some .set_3_l,
      some .set_3_atHL, some .set_3_a] := by decide

theorem test_decode_cb_E : (List.range 16).map (fun k => head [0xCB, BitVec.ofNat 8 (0xE0 + k)]) =
    [some .set_4_b, some .set_4_c, some .set_4_d, some .set_4_e, some .set_4_h, some .set_4_l, some .set_4_atHL,
      some .set_4_a, some .set_5_b, some .set_5_c, some .set_5_d, some .set_5_e, some .set_5_h, some .set_5_l,
      some .set_5_atHL, some .set_5_a] := by decide

theorem test_decode_cb_F : (List.range 16).map (fun k => head [0xCB, BitVec.ofNat 8 (0xF0 + k)]) =
    [some .set_6_b, some .set_6_c, some .set_6_d, some .set_6_e, some .set_6_h, some .set_6_l, some .set_6_atHL,
      some .set_6_a, some .set_7_b, some .set_7_c, some .set_7_d, some .set_7_e, some .set_7_h, some .set_7_l,
      some .set_7_atHL, some .set_7_a] := by decide

theorem test_decode_table_words :
    [decodeTableWord 8 0x41, decodeTableWord 16 0xCB37, decodeTableWord 16 0x3436, decodeTableWord 24 0x123421,
      decodeTableWord 8 0xDD] = [some .ld_b_c, some .swap_a, some (.ld_atHL_n8 0x34), some (.ld_hl_n16 0x1234), none] := by
  decide

theorem test_step_runs_the_fetch_word : gives .step (start.withFetchWord 16 0xCB37) (.ok 8)
    { start with f := 0x80, pc := 0x0102, cycles := 8 } [] = true := by decide

/-! ## Vectors of 95_test_vectors.md, one step each -/

theorem test_V41_1_R180 : gives .step (atPc 0x0100 [0x41] { start with c := 0x5A }) (.ok 4)
    { start with c := 0x5A, b := 0x5A, pc := 0x0101, cycles := 4, f := 0x00 } [] = true := by decide

theorem test_V41_2_R180 : gives .step (atPc 0x0100 [0x7F] { start with a := 0x33 }) (.ok 4)
    { start with a := 0x33, pc := 0x0101, cycles := 4, f := 0x00 } [] = true := by decide

theorem test_V41_4_R181 : gives .step
    (poke 0xC010 0x77 (atPc 0x0100 [0x66] { start with h := 0xC0, l := 0x10 })) (.ok 8)
    { start with h := 0x77, l := 0x10, pc := 0x0101, cycles := 8, f := 0x00 } [] = true := by decide

theorem test_V41_3_R181 : gives .step
    (poke 0xC000 0x9C (atPc 0x0100 [0x5E] { start with h := 0xC0, l := 0x00 })) (.ok 8)
    { start with h := 0xC0, l := 0x00, e := 0x9C, pc := 0x0101, cycles := 8, f := 0x00 } [] = true := by decide

theorem test_V41_5_R182 : gives .step (atPc 0x0100 [0x74] { start with h := 0xC1, l := 0x23 }) (.ok 8)
    { start with h := 0xC1, l := 0x23, pc := 0x0101, cycles := 8, f := 0x00 } [(0xC123, 0xC1)] = true := by decide

theorem test_V41_6_R183 : gives .step (atPc 0x0100 [0x16, 0x77] start) (.ok 8)
    { start with d := 0x77, pc := 0x0102, cycles := 8, f := 0x00 } [] = true := by decide

theorem test_V41_7_R184 : gives .step (atPc 0x0100 [0x36, 0xAB] { start with h := 0xD0, l := 0x00 }) (.ok 12)
    { start with h := 0xD0, l := 0x00, pc := 0x0102, cycles := 12, f := 0x00 } [(0xD000, 0xAB)] = true := by decide

theorem test_V41_8_R185 : gives .step
    (poke 0xC005 0x42 (atPc 0x0100 [0x1A] { start with d := 0xC0, e := 0x05 })) (.ok 8)
    { start with d := 0xC0, e := 0x05, a := 0x42, pc := 0x0101, cycles := 8, f := 0x00 } [] = true := by decide

theorem test_V41_9_R186 : gives .step (atPc 0x0100 [0x02] { start with a := 0x99, b := 0xC0, c := 0x07 }) (.ok 8)
    { start with a := 0x99, b := 0xC0, c := 0x07, pc := 0x0101, cycles := 8, f := 0x00 }
      [(0xC007, 0x99)] = true := by decide

theorem test_V41_10_R187 : gives .step
    (poke 0xFFFF 0x5C (atPc 0x0100 [0x2A] { start with h := 0xFF, l := 0xFF })) (.ok 8)
    { start with h := 0x00, l := 0x00, a := 0x5C, pc := 0x0101, cycles := 8, f := 0x00 } [] = true := by decide

theorem test_V41_11_R188 : gives .step
    (poke 0x0000 0x31 (atPc 0x0100 [0x3A] { start with h := 0x00, l := 0x00 })) (.ok 8)
    { start with h := 0xFF, l := 0xFF, a := 0x31, pc := 0x0101, cycles := 8, f := 0x00 } [] = true := by decide

theorem test_V41_12_R189 : gives .step (atPc 0x0100 [0x22] { start with a := 0x11, h := 0xC0, l := 0xFF }) (.ok 8)
    { start with a := 0x11, h := 0xC1, l := 0x00, pc := 0x0101, cycles := 8, f := 0x00 }
      [(0xC0FF, 0x11)] = true := by decide

theorem test_V41_13_R190 : gives .step (atPc 0x0100 [0x32] { start with a := 0x22, h := 0xC1, l := 0x00 }) (.ok 8)
    { start with a := 0x22, h := 0xC0, l := 0xFF, pc := 0x0101, cycles := 8, f := 0x00 }
      [(0xC100, 0x22)] = true := by decide

theorem test_V41_14_R191 : gives .step (poke 0x1234 0xE7 (atPc 0x0100 [0xFA, 0x34, 0x12] start)) (.ok 16)
    { start with a := 0xE7, pc := 0x0103, cycles := 16, f := 0x00 } [] = true := by decide

theorem test_V41_15_R192 : gives .step (atPc 0x0100 [0xEA, 0x00, 0xC0] { start with a := 0x4B }) (.ok 16)
    { start with a := 0x4B, pc := 0x0103, cycles := 16, f := 0x00 } [(0xC000, 0x4B)] = true := by decide

theorem test_V41_16_R193 : gives .step (poke 0xFF44 0x90 (atPc 0x0100 [0xF0, 0x44] start)) (.ok 12)
    { start with a := 0x90, pc := 0x0102, cycles := 12, f := 0x00 } [] = true := by decide

theorem test_V41_17_R194 : gives .step (atPc 0x0100 [0xE0, 0xFF] { start with a := 0x1F }) (.ok 12)
    { start with a := 0x1F, pc := 0x0102, cycles := 12, f := 0x00 } [(0xFFFF, 0x1F)] = true := by decide

theorem test_V41_18_R195 : gives .step (poke 0xFF00 0xCF (atPc 0x0100 [0xF2] { start with c := 0x00 })) (.ok 8)
    { start with c := 0x00, a := 0xCF, pc := 0x0101, cycles := 8, f := 0x00 } [] = true := by decide

theorem test_V41_19_R196 : gives .step (atPc 0x0100 [0xE2] { start with a := 0xE4, c := 0x47 }) (.ok 8)
    { start with a := 0xE4, c := 0x47, pc := 0x0101, cycles := 8, f := 0x00 } [(0xFF47, 0xE4)] = true := by decide

theorem test_V42_2_R210 : gives .step (atPc 0x0100 [0x21, 0x34, 0x12] start) (.ok 12)
    { start with h := 0x12, l := 0x34, pc := 0x0103, cycles := 12, f := 0x00 } [] = true := by decide

theorem test_V42_1_R210 : gives .step (atPc 0x0100 [0x31, 0xFE, 0xDF] start) (.ok 12)
    { start with sp := 0xDFFE, pc := 0x0103, cycles := 12, f := 0x00 } [] = true := by decide

theorem test_V42_4_R211 : gives .step (atPc 0x0100 [0x08, 0xFF, 0xFF] { start with sp := 0x1234 }) (.ok 20)
    { start with sp := 0x1234, pc := 0x0103, cycles := 20, f := 0x00 }
      [(0xFFFF, 0x34), (0x0000, 0x12)] = true := by decide

theorem test_V42_5_R212 : gives .step (atPc 0x0100 [0xF9] { start with h := 0xC0, l := 0x00 }) (.ok 8)
    { start with h := 0xC0, l := 0x00, sp := 0xC000, pc := 0x0101, cycles := 8, f := 0x00 } [] = true := by decide

theorem test_V42_6_R213 : gives .step (atPc 0x0100 [0xF8, 0xFF] { start with sp := 0x0000 }) (.ok 12)
    { start with sp := 0x0000, h := 0xFF, l := 0xFF, pc := 0x0102, cycles := 12, f := 0x00 } [] = true := by decide

theorem test_V42_7_R213 : gives .step (atPc 0x0100 [0xF8, 0x01] { start with sp := 0x00FF }) (.ok 12)
    { start with sp := 0x00FF, h := 0x01, pc := 0x0102, cycles := 12, f := 0x30 } [] = true := by decide

theorem test_V42_10_R214 : gives .step (atPc 0x0100 [0xF5] { start with a := 0x01, f := 0xB0 }) (.ok 16)
    { start with a := 0x01, f := 0xB0, sp := 0xFFFC, pc := 0x0101, cycles := 16 }
      [(0xFFFC, 0xB0), (0xFFFD, 0x01)] = true := by decide

theorem test_V42_11_R214 : gives .step (atPc 0x0100 [0xD5] { start with d := 0xBE, e := 0xEF, sp := 0x0001 }) (.ok 16)
    { start with d := 0xBE, e := 0xEF, sp := 0xFFFF, pc := 0x0101, cycles := 16, f := 0x00 }
      [(0xFFFF, 0xEF), (0x0000, 0xBE)] = true := by decide

theorem test_V42_12_R215 : gives .step
    (poke 0xFFFD 0x56 (poke 0xFFFC 0x78 (atPc 0x0100 [0xD1] { start with sp := 0xFFFC }))) (.ok 12)
    { start with sp := 0xFFFE, d := 0x56, e := 0x78, pc := 0x0101, cycles := 12, f := 0x00 } [] = true := by decide

theorem test_V42_14_R215 : gives .step
    (poke 0xFFFF 0xCD (poke 0x0000 0xAB (atPc 0x0200 [0xE1] { start with sp := 0xFFFF }))) (.ok 12)
    { start with sp := 0x0001, h := 0xAB, l := 0xCD, pc := 0x0201, cycles := 12, f := 0x00 } [] = true := by decide

theorem test_V42_13_R216 : gives .step
    (poke 0xFFFD 0x12 (poke 0xFFFC 0xFF (atPc 0x0100 [0xF1] { start with sp := 0xFFFC }))) (.ok 12)
    { start with sp := 0xFFFE, a := 0x12, pc := 0x0101, cycles := 12, f := 0xF0 } [] = true := by decide

theorem test_V43_1_R241 : gives .step (atPc 0x0100 [0x80] { start with a := 0x3A, b := 0xC6 }) (.ok 4)
    { start with a := 0x00, b := 0xC6, pc := 0x0101, cycles := 4, f := 0xB0 } [] = true := by decide

theorem test_V43_3_R241 : gives .step (atPc 0x0100 [0x87] { start with a := 0x80 }) (.ok 4)
    { start with a := 0x00, pc := 0x0101, cycles := 4, f := 0x90 } [] = true := by decide

theorem test_V43_4_R242 : gives .step (atPc 0x0100 [0xCE, 0x0F] { start with a := 0xE1, f := 0x10 }) (.ok 8)
    { start with a := 0xF1, f := 0x20, pc := 0x0102, cycles := 8 } [] = true := by decide

theorem test_V43_6_R242 : gives .step (atPc 0x0100 [0xCE, 0x00] { start with a := 0xFF, f := 0x10 }) (.ok 8)
    { start with a := 0x00, f := 0xB0, pc := 0x0102, cycles := 8 } [] = true := by decide

theorem test_V43_8_R243 : gives .step (atPc 0x0100 [0xD6, 0x0F] { start with a := 0x3E }) (.ok 8)
    { start with a := 0x2F, pc := 0x0102, cycles := 8, f := 0x60 } [] = true := by decide

theorem test_V43_9_R243 : gives .step (atPc 0x0100 [0xD6, 0x40] { start with a := 0x3E }) (.ok 8)
    { start with a := 0xFE, pc := 0x0102, cycles := 8, f := 0x50 } [] = true := by decide

theorem test_V43_12_R244 : gives .step (atPc 0x0100 [0xDE, 0xFF] { start with a := 0x00, f := 0x10 }) (.ok 8)
    { start with a := 0x00, f := 0xF0, pc := 0x0102, cycles := 8 } [] = true := by decide

theorem test_V43_13_R244 : gives .step (atPc 0x0100 [0x9F] { start with a := 0x10, f := 0x10 }) (.ok 4)
    { start with a := 0xFF, f := 0x70, pc := 0x0101, cycles := 4 } [] = true := by decide

theorem test_V43_14_R245 : gives .step (atPc 0x0100 [0xE6, 0x3F] { start with a := 0x5A }) (.ok 8)
    { start with a := 0x1A, pc := 0x0102, cycles := 8, f := 0x20 } [] = true := by decide

theorem test_V43_16_R246 : gives .step (atPc 0x0100 [0xAF] { start with a := 0xA5, f := 0x70 }) (.ok 4)
    { start with a := 0x00, f := 0x80, pc := 0x0101, cycles := 4 } [] = true := by decide

theorem test_V43_18_R247 : gives .step
    (poke 0xC000 0x00 (atPc 0x0100 [0xB6] { start with a := 0x00, h := 0xC0, l := 0x00 })) (.ok 8)
    { start with a := 0x00, h := 0xC0, l := 0x00, pc := 0x0101, cycles := 8, f := 0x80 } [] = true := by decide

theorem test_V43_20_R248 : gives .step (atPc 0x0100 [0xFE, 0x40] { start with a := 0x3C }) (.ok 8)
    { start with a := 0x3C, pc := 0x0102, cycles := 8, f := 0x50 } [] = true := by decide

theorem test_V43_21_R248 : gives .step (atPc 0x0100 [0xFE, 0x3C] { start with a := 0x3C }) (.ok 8)
    { start with a := 0x3C, pc := 0x0102, cycles := 8, f := 0xC0 } [] = true := by decide

theorem test_V43_23_R249 : gives .step (atPc 0x0100 [0x3C] { start with a := 0xFF, f := 0x10 }) (.ok 4)
    { start with a := 0x00, f := 0xB0, pc := 0x0101, cycles := 4 } [] = true := by decide

theorem test_V43_24_R249 : gives .step
    (poke 0xC000 0x0F (atPc 0x0100 [0x34] { start with h := 0xC0, l := 0x00 })) (.ok 12)
    { start with h := 0xC0, l := 0x00, pc := 0x0101, cycles := 12, f := 0x20 } [(0xC000, 0x10)] = true := by decide

theorem test_V43_25_R250 : gives .step (atPc 0x0100 [0x05] { start with b := 0x01 }) (.ok 4)
    { start with b := 0x00, pc := 0x0101, cycles := 4, f := 0xC0 } [] = true := by decide

theorem test_V43_26_R250 : gives .step (atPc 0x0100 [0x0D] { start with c := 0x00, f := 0x10 }) (.ok 4)
    { start with c := 0xFF, f := 0x70, pc := 0x0101, cycles := 4 } [] = true := by decide

theorem test_V43_29_R251 : gives .step (atPc 0x0100 [0x27] { start with a := 0x9A }) (.ok 4)
    { start with a := 0x00, pc := 0x0101, cycles := 4, f := 0x90 } [] = true := by decide

theorem test_V43_30_R251 : gives .step (atPc 0x0100 [0x27] { start with a := 0x00, f := 0x70 }) (.ok 4)
    { start with a := 0x9A, f := 0x50, pc := 0x0101, cycles := 4 } [] = true := by decide

theorem test_V43_32_R252 : gives .step (atPc 0x0100 [0x2F] { start with a := 0x35, f := 0x90 }) (.ok 4)
    { start with a := 0xCA, f := 0xF0, pc := 0x0101, cycles := 4 } [] = true := by decide

theorem test_V43_33_R253 : gives .step (atPc 0x0100 [0x37] { start with f := 0xE0 }) (.ok 4)
    { start with f := 0x90, pc := 0x0101, cycles := 4 } [] = true := by decide

theorem test_V43_34_R254 : gives .step (atPc 0x0100 [0x3F] { start with f := 0xF0 }) (.ok 4)
    { start with f := 0x80, pc := 0x0101, cycles := 4 } [] = true := by decide

theorem test_V43_35_R254 : gives .step (atPc 0x0100 [0x3F] { start with f := 0x80 }) (.ok 4)
    { start with f := 0x90, pc := 0x0101, cycles := 4 } [] = true := by decide

theorem test_V44_1_R280 : gives .step
    (atPc 0x0100 [0x09] { start with h := 0x8A, l := 0x23, b := 0x06, c := 0x05 }) (.ok 8)
    { start with h := 0x90, l := 0x28, b := 0x06, c := 0x05, pc := 0x0101, cycles := 8, f := 0x20 }
      [] = true := by decide

theorem test_V44_3_R280 : gives .step
    (atPc 0x0100 [0x39] { start with h := 0xFF, l := 0xFF, sp := 0x0001, f := 0x40 }) (.ok 8)
    { start with h := 0x00, l := 0x00, sp := 0x0001, f := 0x30, pc := 0x0101, cycles := 8 } [] = true := by decide

theorem test_V44_4_R281 : gives .step (atPc 0x0100 [0x03] { start with b := 0xFF, c := 0xFF, f := 0xF0 }) (.ok 8)
    { start with b := 0x00, c := 0x00, f := 0xF0, pc := 0x0101, cycles := 8 } [] = true := by decide

theorem test_V44_5_R282 : gives .step (atPc 0x0100 [0x3B] { start with sp := 0x0000 }) (.ok 8)
    { start with sp := 0xFFFF, pc := 0x0101, cycles := 8, f := 0x00 } [] = true := by decide

theorem test_V44_6_R282 : gives .step (atPc 0x0100 [0x1B] { start with d := 0x01, e := 0x00 }) (.ok 8)
    { start with d := 0x00, e := 0xFF, pc := 0x0101, cycles := 8, f := 0x00 } [] = true := by decide

theorem test_V44_7_R283 : gives .step (atPc 0x0100 [0xE8, 0x08] { start with sp := 0xFFF8 }) (.ok 16)
    { start with sp := 0x0000, pc := 0x0102, cycles := 16, f := 0x30 } [] = true := by decide

theorem test_V44_9_R283 : gives .step (atPc 0x0100 [0xE8, 0x80] { start with sp := 0xD000 }) (.ok 16)
    { start with sp := 0xCF80, pc := 0x0102, cycles := 16, f := 0x00 } [] = true := by decide

theorem test_V45_1_R300 : gives .step (atPc 0x0100 [0x07] { start with a := 0x81 }) (.ok 4)
    { start with a := 0x03, pc := 0x0101, cycles := 4, f := 0x10 } [] = true := by decide

theorem test_V45_2_R300 : gives .step (atPc 0x0100 [0x07] { start with a := 0x00, f := 0x80 }) (.ok 4)
    { start with a := 0x00, f := 0x00, pc := 0x0101, cycles := 4 } [] = true := by decide

theorem test_V45_3_R301 : gives .step (atPc 0x0100 [0x0F] { start with a := 0x01 }) (.ok 4)
    { start with a := 0x80, pc := 0x0101, cycles := 4, f := 0x10 } [] = true := by decide

theorem test_V45_4_R302 : gives .step (atPc 0x0100 [0x17] { start with a := 0x95, f := 0x10 }) (.ok 4)
    { start with a := 0x2B, f := 0x10, pc := 0x0101, cycles := 4 } [] = true := by decide

theorem test_V45_6_R303 : gives .step (atPc 0x0100 [0x1F] { start with a := 0x81 }) (.ok 4)
    { start with a := 0x40, pc := 0x0101, cycles := 4, f := 0x10 } [] = true := by decide

theorem test_V45_7_R305 : gives .step (atPc 0x0100 [0xCB, 0x00] { start with b := 0x81 }) (.ok 8)
    { start with b := 0x03, pc := 0x0102, cycles := 8, f := 0x10 } [] = true := by decide

theorem test_V45_8_R305 : gives .step (atPc 0x0100 [0xCB, 0x07] { start with a := 0x00 }) (.ok 8)
    { start with a := 0x00, pc := 0x0102, cycles := 8, f := 0x80 } [] = true := by decide

theorem test_V45_9_R306 : gives .step (atPc 0x0100 [0xCB, 0x09] { start with c := 0x01 }) (.ok 8)
    { start with c := 0x80, pc := 0x0102, cycles := 8, f := 0x10 } [] = true := by decide

theorem test_V45_10_R307 : gives .step (atPc 0x0100 [0xCB, 0x11] { start with c := 0x80 }) (.ok 8)
    { start with c := 0x00, pc := 0x0102, cycles := 8, f := 0x90 } [] = true := by decide

theorem test_V45_11_R308 : gives .step
    (poke 0xC000 0x8A (atPc 0x0100 [0xCB, 0x1E] { start with h := 0xC0, l := 0x00 })) (.ok 16)
    { start with h := 0xC0, l := 0x00, pc := 0x0102, cycles := 16, f := 0x00 } [(0xC000, 0x45)] = true := by decide

theorem test_V45_12_R308 : gives .step (atPc 0x0100 [0xCB, 0x1B] { start with e := 0x01, f := 0x10 }) (.ok 8)
    { start with e := 0x80, f := 0x10, pc := 0x0102, cycles := 8 } [] = true := by decide

theorem test_V45_13_R309 : gives .step (atPc 0x0100 [0xCB, 0x22] { start with d := 0x80 }) (.ok 8)
    { start with d := 0x00, pc := 0x0102, cycles := 8, f := 0x90 } [] = true := by decide

theorem test_V45_14_R310 : gives .step (atPc 0x0100 [0xCB, 0x2F] { start with a := 0x8A }) (.ok 8)
    { start with a := 0xC5, pc := 0x0102, cycles := 8, f := 0x00 } [] = true := by decide

theorem test_V45_15_R310 : gives .step (atPc 0x0100 [0xCB, 0x2F] { start with a := 0x01 }) (.ok 8)
    { start with a := 0x00, pc := 0x0102, cycles := 8, f := 0x90 } [] = true := by decide

theorem test_V45_16_R311 : gives .step (atPc 0x0100 [0xCB, 0x37] { start with a := 0xF0, f := 0x10 }) (.ok 8)
    { start with a := 0x0F, f := 0x00, pc := 0x0102, cycles := 8 } [] = true := by decide

theorem test_V45_19_R312 : gives .step
    (poke 0xC000 0x01 (atPc 0x0100 [0xCB, 0x3E] { start with h := 0xC0, l := 0x00 })) (.ok 16)
    { start with h := 0xC0, l := 0x00, pc := 0x0102, cycles := 16, f := 0x90 } [(0xC000, 0x00)] = true := by decide

theorem test_V46_1_R330 : gives .step (atPc 0x0100 [0xCB, 0x7C] { start with h := 0x80, f := 0x10 }) (.ok 8)
    { start with h := 0x80, f := 0x30, pc := 0x0102, cycles := 8 } [] = true := by decide

theorem test_V46_3_R330 : gives .step
    (poke 0xC000 0x01 (atPc 0x0100 [0xCB, 0x46] { start with h := 0xC0, l := 0x00, f := 0x40 })) (.ok 12)
    { start with h := 0xC0, l := 0x00, f := 0x20, pc := 0x0102, cycles := 12 } [] = true := by decide

theorem test_V46_4_R331 : gives .step (atPc 0x0100 [0xCB, 0x87] { start with a := 0xFF }) (.ok 8)
    { start with a := 0xFE, pc := 0x0102, cycles := 8, f := 0x00 } [] = true := by decide

theorem test_V46_5_R331 : gives .step
    (poke 0xC000 0x00 (atPc 0x0100 [0xCB, 0xBE] { start with h := 0xC0, l := 0x00 })) (.ok 16)
    { start with h := 0xC0, l := 0x00, pc := 0x0102, cycles := 16, f := 0x00 } [(0xC000, 0x00)] = true := by decide

theorem test_V46_6_R332 : gives .step
    (poke 0xC000 0x01 (atPc 0x0100 [0xCB, 0xFE] { start with h := 0xC0, l := 0x00 })) (.ok 16)
    { start with h := 0xC0, l := 0x00, pc := 0x0102, cycles := 16, f := 0x00 } [(0xC000, 0x81)] = true := by decide

theorem test_V46_7_R332 : gives .step (atPc 0x0100 [0xCB, 0xD8] { start with b := 0x00, f := 0xF0 }) (.ok 8)
    { start with b := 0x08, f := 0xF0, pc := 0x0102, cycles := 8 } [] = true := by decide

theorem test_V47_1_R351 : gives .step (atPc 0x0100 [0xC3, 0x50, 0x01] start) (.ok 16)
    { start with pc := 0x0150, cycles := 16, f := 0x00 } [] = true := by decide

theorem test_V47_2_R352 : gives .step (atPc 0x0100 [0xCA, 0x00, 0x20] { start with f := 0x80 }) (.ok 16)
    { start with f := 0x80, pc := 0x2000, cycles := 16 } [] = true := by decide

theorem test_V47_4_R352 : gives .step (atPc 0x0100 [0xD2, 0x00, 0x20] { start with f := 0x10 }) (.ok 12)
    { start with f := 0x10, pc := 0x0103, cycles := 12 } [] = true := by decide

theorem test_V47_5_R353 : gives .step (atPc 0x0100 [0xE9] { start with h := 0x40, l := 0x00 }) (.ok 4)
    { start with h := 0x40, l := 0x00, pc := 0x4000, cycles := 4, f := 0x00 } [] = true := by decide

theorem test_V47_6_R354 : gives .step (atPc 0x0150 [0x18, 0xFE] start) (.ok 12)
    { start with cycles := 12, f := 0x00, pc := 0x0150 } [] = true := by decide

theorem test_V47_7_R354 : gives .step (atPc 0xFFF0 [0x18, 0x7F] start) (.ok 12)
    { start with pc := 0x0071, cycles := 12, f := 0x00 } [] = true := by decide

theorem test_V47_8_R354 : gives .step (atPc 0x0010 [0x18, 0x80] start) (.ok 12)
    { start with pc := 0xFF92, cycles := 12, f := 0x00 } [] = true := by decide

theorem test_V47_9_R355 : gives .step (atPc 0x0204 [0x20, 0xFC] { start with f := 0x00 }) (.ok 12)
    { start with f := 0x00, pc := 0x0202, cycles := 12 } [] = true := by decide

theorem test_V47_10_R355 : gives .step (atPc 0x0204 [0x20, 0xFC] { start with f := 0x80 }) (.ok 8)
    { start with f := 0x80, pc := 0x0206, cycles := 8 } [] = true := by decide

theorem test_V47_12_R356 : gives .step (atPc 0x0200 [0xCD, 0x00, 0x30] start) (.ok 24)
    { start with sp := 0xFFFC, pc := 0x3000, cycles := 24, f := 0x00 }
      [(0xFFFC, 0x03), (0xFFFD, 0x02)] = true := by decide

theorem test_V47_13_R357 : gives .step (atPc 0x0200 [0xDC, 0x00, 0x30] { start with f := 0x00 }) (.ok 12)
    { start with f := 0x00, pc := 0x0203, cycles := 12 } [] = true := by decide

theorem test_V47_14_R357 : gives .step (atPc 0x0200 [0xC4, 0x00, 0x30] { start with f := 0x00 }) (.ok 24)
    { start with f := 0x00, sp := 0xFFFC, pc := 0x3000, cycles := 24 }
      [(0xFFFC, 0x03), (0xFFFD, 0x02)] = true := by decide

theorem test_V47_15_R358 : gives .step (atPc 0x1234 [0xEF] { start with sp := 0xD000 }) (.ok 16)
    { start with sp := 0xCFFE, pc := 0x0028, cycles := 16, f := 0x00 }
      [(0xCFFE, 0x35), (0xCFFF, 0x12)] = true := by decide

theorem test_V47_16_R358 : gives .step (atPc 0x0100 [0xFF] start) (.ok 16)
    { start with sp := 0xFFFC, pc := 0x0038, cycles := 16, f := 0x00 }
      [(0xFFFC, 0x01), (0xFFFD, 0x01)] = true := by decide

theorem test_V47_17_R359 : gives .step
    (poke 0xFFFD 0x02 (poke 0xFFFC 0x03 (atPc 0x0100 [0xC9] { start with sp := 0xFFFC }))) (.ok 16)
    { start with sp := 0xFFFE, pc := 0x0203, cycles := 16, f := 0x00 } [] = true := by decide

theorem test_V47_18_R360 : gives .step
    (poke 0xFFFD 0x02 (poke 0xFFFC 0x03 (atPc 0x0100 [0xC0] { start with sp := 0xFFFC, f := 0x80 }))) (.ok 8)
    { start with sp := 0xFFFC, f := 0x80, pc := 0x0101, cycles := 8 } [] = true := by decide

theorem test_V47_19_R360 : gives .step
    (poke 0xFFFD 0x02 (poke 0xFFFC 0x03 (atPc 0x0100 [0xC8] { start with sp := 0xFFFC, f := 0x80 }))) (.ok 20)
    { start with sp := 0xFFFE, f := 0x80, pc := 0x0203, cycles := 20 } [] = true := by decide

theorem test_V47_20_R361 : gives .step
    (poke 0xFFFD 0x01 (poke 0xFFFC 0x50 (atPc 0x0100 [0xD9] { start with sp := 0xFFFC }))) (.ok 16)
    { start with sp := 0xFFFE, pc := 0x0150, cycles := 16, ime := true, f := 0x00 } [] = true := by decide

theorem test_V48_1_R380 : gives .step (atPc 0x0100 [0x00] start) (.ok 4)
    { start with pc := 0x0101, cycles := 4, f := 0x00 } [] = true := by decide

theorem test_V48_2_R381 : gives .step (atPc 0x0200 [0x76] start) (.ok 4)
    { start with pc := 0x0201, cycles := 4, run := .halted, f := 0x00 } [] = true := by decide

theorem test_V48_5_R383 : gives .step (atPc 0x0100 [0xF3] { start with ime := true }) (.ok 4)
    { start with ime := false, pc := 0x0101, cycles := 4, f := 0x00 } [] = true := by decide

theorem test_V48_9_R385 : gives .step (atPc 0x0200 [0xDD] start) (.err (.invalidOpcode 0xDD 0x0200))
    { start with f := 0x00, pc := 0x0200 } [] = true := by decide

theorem test_V60_1_R415 : gives (.interrupt 0x50)
    (atPc 0x0123 [0x00] { start with ime := true, sp := 0xFFFE }) .accepted
    { start with ime := false, sp := 0xFFFC, pc := 0x0050, cycles := 20, f := 0x00 }
      [(0xFFFC, 0x23), (0xFFFD, 0x01)] = true := by decide

theorem test_V60_2_R416 : gives (.interrupt 0x40) (atPc 0x0100 [0x00] { start with ime := false }) .turnedAway
    { start with ime := false, f := 0x00, pc := 0x0100 } [] = true := by decide
/-! ## Host transactions and the EI delay: R410 to R424 -/

/-- A NOP at 0x0100 with the pending bit 1. -/
def pending (bs : List Byte) : State := atPc 0x0100 bs { start with imePending := true }

theorem test_ei_sets_the_pending_bit_alone : gives .step (atPc 0x0100 [0xFB] start) (.ok 4)
    { start with pc := 0x0101, cycles := 4, imePending := true } [] = true := by decide

theorem test_nop_after_ei_promotes : gives .step (pending [0x00]) (.ok 4)
    { start with pc := 0x0101, cycles := 4, ime := true } [] = true := by decide

theorem test_di_after_ei_cancels : gives .step (pending [0xF3]) (.ok 4)
    { start with pc := 0x0101, cycles := 4 } [] = true := by decide

theorem test_ei_after_ei_promotes : gives .step (pending [0xFB]) (.ok 4)
    { start with pc := 0x0101, cycles := 4, ime := true } [] = true := by decide

theorem test_halt_after_ei_promotes : gives .step (pending [0x76]) (.ok 4)
    { start with pc := 0x0101, cycles := 4, ime := true, run := .halted } [] = true := by decide

theorem test_stop_skips_its_second_byte : gives .step (atPc 0x0150 [0x10, 0xFF] start) (.ok 4)
    { start with pc := 0x0152, cycles := 4, run := .stopped } [] = true := by decide

theorem test_idle_tick_does_not_promote : gives .step { start with run := .halted, imePending := true } (.ok 4)
    { start with cycles := 4, run := .halted, imePending := true } [] = true := by decide

theorem test_resume_wakes_a_stopped_core : gives .resume { start with run := .stopped } .done start [] = true := by
  decide

theorem test_interrupt_wakes_a_halted_core :
    gives (.interrupt 0x60) { start with run := .halted, ime := true, pc := 0x0202 } .accepted
      { start with sp := 0xFFFC, pc := 0x0060, cycles := 20 } [(0xFFFC, 0x02), (0xFFFD, 0x02)] = true := by decide

theorem test_interrupt_with_another_vector_is_turned_away :
    gives (.interrupt 0x68) { start with ime := true } .turnedAway { start with ime := true } [] = true := by decide

theorem test_reset_post_boot : gives (.reset .postBootDmg Config.powerOnDraw) { start with run := .halted, cycles := 999 }
    .done (State.resetInto .postBootDmg Config.powerOnDraw start.bus) [] = true := by decide

theorem test_V60_9_second_stack_write_rejected :
    busFaults (holed 0xFFFD (atPc 0x0100 [0xC5] { start with c := 0x34 })) 0xFFFD .write 0x0100
      [.read 0x0100, .write 0xFFFC 0x34] 0xFFFC 0x34 = true := by decide

theorem test_V60_10_opcode_fetch_rejected :
    busFaults (holed 0x0100 (atPc 0x0100 [0xDD] start)) 0x0100 .read 0x0100 [] 0x0100 0xDD = true := by decide

theorem test_V60_11_cb_is_never_undefined :
    busFaults (holed 0x0101 (atPc 0x0100 [0xCB, 0xDD] start)) 0x0101 .read 0x0100 [.read 0x0100] 0x0101 0xDD = true := by decide

theorem test_fetch_wraps_at_the_top : gives .step (atPc 0xFFFF [0x3E, 0x7F] start) (.ok 8)
    { start with a := 0x7F, pc := 0x0001, cycles := 8 } [] = true := by decide

theorem test_instruction_does_not_see_its_own_store :
    gives .step (atPc 0x0100 [0x36, 0xAA] { start with h := 0x01, l := 0x01 }) (.ok 12)
      { start with h := 0x01, l := 0x01, pc := 0x0102, cycles := 12 } [(0x0101, 0xAA)] = true := by decide

/-! ## Witnesses: for each obligation with hypotheses, a state and operands that meet them -/

/-- The state about to run the form's encoding at 0x0100. -/
def about (o : Form) (s : State) : State := atPc 0x0100 (encode o.instr) s

/-- The hypotheses of `FetchFaults` at the k-th byte, with a bus that rejects exactly that byte. -/
def meetsFetch (o : Form) (k : Nat) : Bool :=
  let s := holed (0x0100 + BitVec.ofNat 16 k) (about o start)
  s.run == .running && decide (k < (encode o.instr).length) && s.bytesAtPc k == (encode o.instr).take k &&
    s.accepts (s.fetchReads k) && s.bus.rejects .read (s.pc + BitVec.ofNat 16 k)

/-- The state with a bus that rejects exactly the calls of one kind at one address. -/
def rejecting (x : Access × Word) (s : State) : State :=
  { s with
    bus := { s.bus with
      faultEnabled := true
      holes := [{ lo := x.2, hi := x.2, onRead := x.1 == .read, onWrite := x.1 == .write }] } }

/-- The hypotheses of `AccessFaults` at each call of the form, with a bus that rejects that kind of call there. -/
def meetsAccess (o : Form) (s : State) : Bool :=
  (List.range (o.calls s).length).all fun n =>
    let s' := rejecting ((o.accesses s).getD n (.read, 0)) s
    match (o.calls s').drop n with
    | [] => false
    | e :: after =>
      o.calls s' == (o.calls s').take n ++ e :: after && s'.accepts ((o.calls s').take n) && s'.bus.rejectsCall e

/-- The hypotheses of all clauses of `Form.Follows`, at a state and at every byte of the encoding. -/
def meets (o : Form) (s : State) : Bool :=
  ((List.range (encode o.instr).length).all fun k => meetsFetch o k) && meetsAccess o s && s.accepts (o.calls s)

/-- The extreme operand bytes and words. -/
def bytes : List Byte := [0x00, 0x7F, 0x80, 0xFF]
def words : List Word := [0x0000, 0x7FFF, 0x8000, 0xFFFF]

/-- A state with the flags Z and C at 1. -/
def flagged : State := { start with f := 0x90 }

theorem witness_DecodeOfEncodeIsTheInstruction : decode (encode (.ld_sp_n16 0xFFFF) ++ [0xDD]) =
    .instr (.ld_sp_n16 0xFFFF) [0xDD] := by decide

theorem witness_EncodeOfDecodeIsTheBytes : decode [0xFF, 0xDD] = .instr .rst_38 [0xDD] := by decide

theorem witness_WellFormedStringsAreTheEncodings :
    encodingWellFormed [0xCB, 0xFF] = true ∧ (encode .set_7_a).headD 0 = 0xCB := by decide

theorem witness_TheElevenOpcodesAreUndefined : (atPc 0x0100 [0xCB, 0xDD] start).bus.peek 0x0100 = 0xCB := by decide

theorem witness_StepRunsTheFetchedInstruction :
    let s := atPc 0xFFFF [0xFA, 0x34, 0x12] start
    s.run = .running ∧ decode (s.bytesAtPc 3) = .instr (.ld_a_atA16 0x1234) [] ∧
      s.accepts (s.fetchReads (3 - ([] : List Byte).length)) = true := by decide

theorem witness_UndefinedOpcodesRaiseInvalidOpcode :
    let s := atPc 0x0100 [0xFD] start
    s.run = .running ∧
      s.bus.peek s.pc ∈ [0xD3, 0xDB, 0xDD, 0xE3, 0xE4, 0xEB, 0xEC, 0xED, 0xF4, 0xFC, 0xFD] ∧
      s.bus.rejects .read s.pc = false ∧ faults s (.invalidOpcode 0xFD 0x0100) = true := by decide

theorem witness_StepReportsTheFirstRejectedAccess :
    let s := holed 0xFFFD (atPc 0x0100 [0xC5] start)
    s.run = .running ∧ decode (s.bytesAtPc 3) = .instr .push_bc [0x00, 0x00] ∧
      s.fetchReads 1 ++ (Form.push .bc).calls s =
        [.read 0x0100, .write 0xFFFC 0x00] ++ .write 0xFFFD 0x00 :: [] ∧
      s.accepts [.read 0x0100, .write 0xFFFC 0x00] = true ∧ s.bus.rejectsCall (.write 0xFFFD 0x00) = true := by decide

theorem witness_StepReportsTheFirstRejectedAccess_opcode :
    let s := holed 0x0100 (atPc 0x0100 [0x00] start)
    s.run = .running ∧ s.bus.rejects .read s.pc = true := by decide

theorem witness_StepReportsTheFirstRejectedAccess_undefined :
    let s := holed 0x0101 (atPc 0x0100 [0xD3] start)
    s.run = .running ∧ decode (s.bytesAtPc 3) = .undefinedOpcode 0xD3 ∧ s.bus.rejects .read s.pc = false := by decide

theorem witness_StepReportsTheFirstRejectedAccess_accepted :
    let s := holed 0xFFFD (atPc 0x0100 [0x00] start)
    s.run = .running ∧ decode (s.bytesAtPc 3) = .instr .nop [0x00, 0x00] ∧ s.accepts (s.fetchReads 1) = true := by decide

theorem witness_IdleTickOnlyAddsFourCycles :
    ({ start with run := .halted } : State).run = .halted ∧ ({ start with run := .stopped } : State).run = .stopped := by
  decide

theorem start_inv : start.Inv := ⟨by decide, by decide⟩

theorem witness_EveryTransactionKeepsTheInvariant :
    start.Inv ∧ (∃ t, step start = .next t) ∧ (∃ r t, transact (.interrupt 0x40) start = .next (r, t)) ∧
      (holed 0x0100 start).Inv ∧ ∃ a pc0 k b, transact .step (holed 0x0100 start) = .fault (.busFault a k pc0 b) :=
  ⟨start_inv, exists_next (by decide), ⟨_, _, rfl⟩, ⟨by decide, by decide⟩, _, _, _, _, rfl⟩

theorem witness_ResetMeetsTheInvariant : start.bus.mem.wf = true := by decide

theorem witness_NoInstructionFailsOnTheDefaultBus :
    start.bus.faultEnabled = false ∧
      exec .ld_atHL_b (holed 0x0000 start) =
        .fault (.busFault 0x0000 .write 0x0100 (holed 0x0000 start).bus) := ⟨by decide, rfl⟩

theorem witness_EveryInstructionCompletesAtItsTableCost :
    flagged.accepts ((Form.callCc .c 0x3000).calls flagged) = true ∧
      (Form.callCc .nc 0x3000).endsAtPcNext flagged = true := by decide

theorem witness_CyclesAreTheSumOfTheReturnedCosts :
    start.run = .running ∧ decode (start.bytesAtPc 3) = .instr .nop [0x00, 0x00] ∧
      isNext (transact .step start) = true ∧ isNext (transactAll [.step, .resume, .getState] start) = true ∧
      ([.step, .resume, .getState].all fun x : Transaction => !x.isReset) = true := by decide

theorem witness_OtherRegistersAreUnchanged :
    isNext (exec .ld_a_atHLI start) = true ∧ Reg.b ∉ Instr.ld_a_atHLI.form.regsWritten := by decide

theorem witness_OtherFlagsAreUnchanged :
    isNext (exec .pop_af flagged) = true ∧ isNext (exec .inc_b flagged) = true ∧
      Instr.inc_b.form.writesFlag .carry = false := by decide

theorem witness_OtherControlStateIsUnchanged :
    isNext (exec .nop flagged) = true ∧ Instr.nop.form.writesSp = false ∧ Instr.nop.form.writesRun = false ∧
      Instr.nop.form.writesIme = false ∧ Instr.nop.form.writesPending = false := by decide

theorem witness_OtherMemoryIsUnchanged :
    isNext (exec .push_bc start) = true ∧ (Access.write, (0xFFFE : Word)) ∉ Instr.push_bc.form.accesses start ∧
      (Access.write, (0xFFFB : Word)) ∉ Instr.push_bc.form.accesses start := by decide

theorem witness_BusEventsAreTheFetchThenTheAccesses :
    let s := atPc 0x0100 [0xCD, 0x00, 0x30] start
    s.run = .running ∧ decode (s.bytesAtPc 3) = .instr (.call_a16 0x3000) [] ∧ isNext (step s) = true ∧
      isNext (exec (.call_a16 0x3000) s) = true := by decide

theorem witness_WordAccessesAreTwoByteAccesses :
    (start.bus.unmapped .read 0xFFFF || start.bus.unmapped .write 0xFFFF || start.bus.unmapped .read (0xFFFF + 1) ||
      start.bus.unmapped .write (0xFFFF + 1)) = false ∧
      start.bus.rejects .read 0xFFFF = false ∧ start.bus.rejects .read (0xFFFF + 1) = false := by decide

theorem witness_CanonicalMemoryIsDeterminedByItsReads :
    ((start.bus.mem.write 0xFFFF 0x01).write 0x0000 0x02).wf = true ∧
      ((start.bus.mem.write 0xFFFF 0x01).write 0x0000 0x02) = (start.bus.mem.write 0x0000 0x02).write 0xFFFF 0x01 := by
  decide

theorem witness_LoadRegisterFromRegister :
    meets (.ldRegReg .b .a) start = true ∧ meets (.ldRegReg .l .l) start = true := by decide

theorem witness_LoadRegisterFromMemoryAtHL :
    meets (.ldRegMem .h) start = true ∧ meets (.ldRegMem .a) start = true := by decide

theorem witness_StoreRegisterToMemoryAtHL :
    meets (.ldMemReg .l) start = true ∧ meets (.ldMemReg .a) start = true := by decide

theorem witness_LoadImmediateByte :
    (bytes.all fun n => meets (.ldRegImm .a n) start && meets (.ldMemImm n) start) = true := by decide

theorem witness_LoadAndStoreAThroughPair :
    ([Ptr.bc, .de].all fun p => meets (.ldAPtr p) start && meets (.ldPtrA p) start) = true := by decide

theorem witness_LoadAndStoreAWithSteppedHL :
    ([Form.ldAHli, .ldAHld, .ldHliA, .ldHldA].all fun o =>
      meets o start && meets o { start with h := 0xFF, l := 0xFF }) = true := by decide

theorem witness_LoadAndStoreAAbsoluteAndHighPage :
    (words.all fun a => meets (.ldAAbs a) start && meets (.ldAbsA a) start) = true ∧
    (bytes.all fun n => meets (.ldhAImm n) start && meets (.ldhImmA n) start) = true ∧
    (bytes.all fun n => meets .ldhAC { start with c := n } && meets .ldhCA { start with c := n }) = true := by decide

theorem witness_LoadPairImmediateAndSpFromHL :
    (words.all fun n => meets (.ldPairImm .sp n) start && meets (.ldPairImm .bc n) start) = true ∧
      meets .ldSpHl start = true := by decide

theorem witness_StoreSpToAbsoluteAddress : (words.all fun a => meets (.ldAbsSp a) start) = true := by decide

theorem witness_AddDisplacementToSp :
    (bytes.all fun e => meets (.ldHlSp e) start && meets (.addSp e) start) = true := by decide

theorem witness_PushPair :
    (words.all fun w => meets (.push .af) { start with sp := w } && meets (.push .bc) { start with sp := w }) = true := by
  decide

theorem witness_PopPair :
    StackPair.bc ≠ .af ∧
      (words.all fun w => meets (.pop .af) { start with sp := w } && meets (.pop .bc) { start with sp := w }) = true := by
  decide

/-- The hypotheses of an ALU rule, for a register, for (HL) and for immediates. -/
def meetsAlu (op : AluOp) : Bool :=
  meets (AluSource.form (.r8 (.reg .b)) op) flagged && meets (AluSource.form (.r8 .atHL) op) flagged &&
    bytes.all fun n => meets (AluSource.form (.imm n) op) flagged

theorem witness_AddToA : meetsAlu .add = true := by decide
theorem witness_AddToAWithCarry : meetsAlu .adc = true := by decide
theorem witness_SubtractFromAAndCompare : meetsAlu .sub = true ∧ meetsAlu .cp = true := by decide
theorem witness_SubtractFromAWithCarry : meetsAlu .sbc = true := by decide
theorem witness_LogicalOperationsOnA : meetsAlu .and = true ∧ meetsAlu .xor = true ∧ meetsAlu .or = true := by decide

theorem witness_IncrementAndDecrementByte :
    ([R8.reg .a, .atHL].all fun x => meets (.incR8 x) start && meets (.decR8 x) start) = true := by decide

theorem witness_DecimalAdjust : meets .daa start = true := by decide

theorem witness_DecimalAdjustCorrectsAdditionAndSubtraction :
    ({ start with a := 0x99 } : State).a = BitVec.ofNat 8 (16 * 9 + 9) ∧ start.a = BitVec.ofNat 8 (16 * 0 + 0) := by decide

theorem witness_ComplementAndCarryOperations :
    ([Form.cpl, .scf, .ccf].all fun o => meets o flagged) = true := by decide

theorem witness_AddPairToHL : ([Pair.bc, .de, .hl, .sp].all fun p => meets (.addHl p) start) = true := by decide

theorem witness_IncrementAndDecrementPair :
    ([Pair.bc, .de, .hl, .sp].all fun p => meets (.incPair p) start && meets (.decPair p) start) = true := by decide

theorem witness_AccumulatorRotates :
    ([Form.rlca, .rrca, .rla, .rra].all fun o => meets o flagged) = true := by decide

theorem witness_RotatesAndShifts :
    ([R8.reg .b, .atHL].all fun x => meets (.rot .rlc x) flagged && meets (.rot .srl x) flagged) = true := by decide

theorem witness_TestBit :
    ([R8.reg .b, .atHL].all fun x => meets (.bit .d0 x) flagged && meets (.bit .d7 x) flagged) = true := by decide

theorem witness_ResetAndSetBit :
    ([R8.reg .b, .atHL].all fun x => meets (.res .d0 x) flagged && meets (.set .d7 x) flagged) = true := by decide

theorem witness_AbsoluteJumps :
    (words.all fun a => meets (.jp a) start && meets (.jpCc .z a) start && meets (.jpCc .z a) flagged) = true ∧
      meets .jpHl start = true := by decide

theorem witness_RelativeJumps :
    (bytes.all fun e => meets (.jr e) start && meets (.jrCc .nc e) start && meets (.jrCc .nc e) flagged) = true := by decide

theorem witness_CallsAndRestarts :
    (words.all fun a => meets (.call a) { start with sp := a } && meets (.callCc .c a) start &&
      meets (.callCc .c a) flagged) = true ∧ meets (.rst .d0) start = true ∧ meets (.rst .d7) start = true := by decide

theorem witness_Returns :
    (words.all fun a => meets .ret { start with sp := a } && meets .reti { start with sp := a }) = true ∧
      meets (.retCc .nz) start = true ∧ meets (.retCc .nz) flagged = true := by decide

theorem witness_CpuControlInstructions :
    ([Form.nop, .halt, .di, .ei].all fun o => meets o start) = true ∧
      (bytes.all fun n => meets (.stop n) start) = true := by decide

theorem witness_InterruptEntry :
    let s : State := { start with ime := true }
    (0x60 : Word) ∈ ([0x40, 0x48, 0x50, 0x58, 0x60] : List Word) ∧
      (0x61 : Word) ∉ ([0x40, 0x48, 0x50, 0x58, 0x60] : List Word) ∧ s.ime = true ∧ start.ime = false ∧
      s.bus.rejects .write (s.sp - 2) = false ∧ s.bus.rejects .write (s.sp - 2 + 1) = false := by decide

theorem witness_InterruptEntry_rejected :
    let s : State := holed 0xFFFC { start with ime := true }
    let s' : State := holed 0xFFFD { start with ime := true }
    s.ime = true ∧ s.bus.rejects .write (s.sp - 2) = true ∧
      s'.ime = true ∧ s'.bus.rejects .write (s'.sp - 2) = false ∧ s'.bus.rejects .write (s'.sp - 2 + 1) = true := by
  decide

theorem witness_ImeChangesOnlyAtItsEvents :
    ([.step, .getState, .reset .powerOn Config.powerOnDraw, .resume, .interrupt 0x40].all fun x : Transaction =>
      isNext (transact x start) && isNext (transact x { start with ime := true })) = true ∧
      isNext (transact .step (atPc 0x0100 [0xDD] start)) = true := by decide

theorem witness_RunStateChangesOnlyAtItsEvents :
    ([.step, .getState, .reset .powerOn Config.powerOnDraw, .resume, .interrupt 0x40].all fun x : Transaction =>
      isNext (transact x { start with run := .halted }) && isNext (transact x (atPc 0x0100 [0x76] start))) = true := by
  decide

theorem witness_GetStateAndResume :
    ({ start with run := .halted } : State).run ≠ .running ∧ start.run = .running := by decide

end Sys2Proof.Tests
end

section
/-! PROOFS. The frame of `Form.result`: which fields of the state an instruction leaves as they are, form by form. -/

namespace Sys2Proof.Machine

variable (s : State)

/-! ## The flag register under the named updates -/

@[simp] theorem applyAlu_f (op : AluOp) (v : Byte) :
    (s.applyAlu op v).f = writeFlags (aluResult op s.a v s.flags.c).2 s.f := rfl
@[simp] theorem applyAlu_sp (op : AluOp) (v : Byte) : (s.applyAlu op v).sp = s.sp := rfl
@[simp] theorem applyAlu_run (op : AluOp) (v : Byte) : (s.applyAlu op v).run = s.run := rfl
@[simp] theorem applyAlu_ime (op : AluOp) (v : Byte) : (s.applyAlu op v).ime = s.ime := rfl
@[simp] theorem applyAlu_imePending (op : AluOp) (v : Byte) : (s.applyAlu op v).imePending = s.imePending := rfl

/-- The mask of a whole write of F leaves its low nibble 0 (R35, R37). -/
theorem and_F0_lowNibble (f : Byte) : f &&& 0xF0 &&& 0x0F = 0 := by
  rw [BitVec.and_assoc]
  exact BitVec.and_zero

/-! ## F at the end of an instruction -/

/-- POP AF clears the low nibble of F; no other form touches it. -/
theorem result_lowNibble (o : Form) :
    (o.result s).f &&& 0x0F = if o = .pop .af then 0 else s.f &&& 0x0F := by
  cases o with
  | pop p =>
    cases p with
    | af => exact and_F0_lowNibble _
    | _ => rfl
  | alu | aluImm | incR8 | decR8 | daa | cpl | scf | ccf | addHl | ldHlSp | addSp | rlca | rrca | rla | rra | rot
  | bit => simpa [Form.result] using writeFlags_lowNibble _ s.f
  | jpCc | jrCc | callCc | retCc => simp only [Form.result]; split <;> rfl
  | _ => simp [Form.result]

/-- A flag that the form's column leaves unchanged reads as before. -/
theorem result_testFlag (o : Form) (k : Flag) (h : o.writesFlag k = false) :
    testFlag k (o.result s).f = testFlag k s.f := by
  cases o with
  | alu | aluImm | ldHlSp | addSp | rlca | rrca | rla | rra | rot => cases h
  | pop p =>
    cases p with
    | af => cases h
    | _ => rfl
  | incR8 | decR8 | bit =>
    obtain rfl : k = .carry := by simpa [Form.writesFlag] using h
    simp [Form.result, testFlag_writeFlags, inc8, dec8, bitFlags, State.flags, readFlags]
  | daa =>
    obtain rfl : k = .subtract := by simpa [Form.writesFlag] using h
    simp [Form.result, testFlag_writeFlags, daa8, State.flags, readFlags]
  | scf | ccf | addHl =>
    obtain rfl : k = .zero := by simpa [Form.writesFlag] using h
    simp [Form.result, testFlag_writeFlags, scfFlags, ccfFlags, addHl16, State.flags, readFlags]
  | cpl =>
    cases k with
    | subtract | halfCarry => cases h
    | zero | carry => simp [Form.result, testFlag_writeFlags, cplFlags, State.flags, readFlags]
  | jpCc | jrCc | callCc | retCc => simp only [Form.result]; split <;> rfl
  | _ => simp [Form.result]

/-! ## SP and the control state at the end of an instruction -/

theorem result_sp_of_not_writesSp (o : Form) (h : o.writesSp = false) : (o.result s).sp = s.sp := by
  cases o with
  | ldSpHl | addSp | push | pop | call | callCc | rst | ret | retCc | reti => cases h
  | ldPairImm p | incPair p | decPair p =>
    cases p with
    | sp => cases h
    | _ => rfl
  | jpCc | jrCc => simp only [Form.result]; split <;> rfl
  | _ => simp [Form.result]

theorem result_run_of_not_writesRun (o : Form) (h : o.writesRun = false) : (o.result s).run = s.run := by
  cases o with
  | halt | stop => cases h
  | jpCc | jrCc | callCc | retCc => simp only [Form.result]; split <;> rfl
  | _ => simp [Form.result]

theorem result_ime_of_not_writesIme (o : Form) (h : o.writesIme = false) : (o.result s).ime = s.ime := by
  cases o with
  | di | reti => cases h
  | jpCc | jrCc | callCc | retCc => simp only [Form.result]; split <;> rfl
  | _ => simp [Form.result]

theorem result_imePending_of_not_writesPending (o : Form) (h : o.writesPending = false) :
    (o.result s).imePending = s.imePending := by
  cases o with
  | di | ei | reti => cases h
  | jpCc | jrCc | callCc | retCc => simp only [Form.result]; split <;> rfl
  | _ => simp [Form.result]

/-- POP AF is the only instruction whose form is POP of AF. -/
theorem form_eq_popAf_iff (i : Instr) : i.form = .pop .af ↔ i = .pop_af := by
  constructor
  · intro h
    rw [← form_instr i, h]
    rfl
  · rintro rfl
    rfl

end Sys2Proof.Machine
end

section
/-! PROOFS. What each transaction can do, said once: the state it ends in, and the bus that a BusFault carries. -/

namespace Sys2Proof.Machine

variable {s t : State}

/-! ## The state after a transaction -/

/-- A step transaction that answers took a step, or met an undefined opcode and only fetched it. -/
theorem transact_step_inversion {r : Response} (h : transact .step s = .next (r, t)) :
    (step s = .next t ∧ r = .ok (t.cycles - s.cycles)) ∨
    ∃ op pc, step s = .fault (.invalidOpcode op pc) ∧ r = .err (.invalidOpcode op pc) ∧
      t = { s with bus := s.bus.afterRead s.pc } := by
  unfold transact at h
  cases hs : step s with
  | next u =>
    rw [hs] at h
    cases h
    exact .inl ⟨rfl, rfl⟩
  | fault f =>
    rw [hs] at h
    cases f with
    | invalidOpcode op pc =>
      cases h
      exact .inr ⟨op, pc, rfl, rfl, rfl⟩
    | busFault => cases h
  | refused => rw [hs] at h; cases h

/-- A core that runs is not woken. -/
theorem resume_of_running (h : s.run = .running) : resume s = s := by
  unfold resume
  rw [h]

/-- In every run state, what `resume` leaves is the state made Running. -/
theorem resume_eq (s : State) : resume s = { s with run := .running } := by
  cases hr : s.run with
  | running => rw [resume_of_running hr, ← hr]
  | halted | stopped => unfold resume; rw [hr]

/-- An interrupt that answers is turned away with no change, or it is entered. -/
theorem interrupt_inversion {v : Word} {r : Response} (h : interrupt v s = .next (r, t)) :
    (interruptAccepted v s = false ∧ r = .turnedAway ∧ t = s) ∨
    (interruptAccepted v s = true ∧ r = .accepted ∧ enterInterrupt v s = .next t) := by
  unfold interrupt at h
  cases ha : interruptAccepted v s with
  | false =>
    rw [ha] at h
    cases h
    exact .inl ⟨rfl, rfl, rfl⟩
  | true =>
    rw [ha, if_pos rfl] at h
    obtain ⟨u, hu, h⟩ := (andThen_eq_next _).1 h
    cases h
    exact .inr ⟨rfl, rfl, hu⟩

/-! ## The bus that a BusFault carries (R402) -/

/-- A fault of a sequence is its first operation's, or its second's on an answer of the first. -/
theorem andThen_eq_fault {α β : Type} {x : Result α} (k : α → Result β) {r : Fault} :
    andThen x k = .fault r ↔ x = .fault r ∨ ∃ v, x = .next v ∧ k v = .fault r := by
  cases x <;> simp

variable {a pc0 : Word} {k : Access} {b : Bus}

theorem guarded_busFault_bus {α : Type} {pc : Word} {b₀ : Bus} {calls : List BusEvent} {x : α}
    (h : guarded pc b₀ calls x = .fault (.busFault a k pc0 b)) : ∃ done, b = b₀.afterCalls done := by
  obtain ⟨before, e, after, -, -, -, hr⟩ := guarded_eq_fault _ _ _ h
  cases hr
  exact ⟨before, rfl⟩

theorem exec_busFault_bus {i : Instr} (h : exec i s = .fault (.busFault a k pc0 b)) :
    ∃ done, b = s.bus.afterCalls done := by
  rw [exec_eq_run, run_eq] at h
  exact guarded_busFault_bus h

theorem fetch_busFault_bus (h : fetch s = .fault (.busFault a k pc0 b)) : ∃ done, b = s.bus.afterCalls done := by
  rcases decode_bytesAtPc s with ⟨i, rest, hd⟩ | ⟨op, hd⟩
  · rw [fetch_decode s hd] at h
    exact guarded_busFault_bus h
  · rw [(fetch_undefined s hd).2] at h
    split at h
    · cases h
      exact ⟨[], rfl⟩
    · cases h

/-- The bus of a fetched instruction's state is the one the fetch's reads left. -/
theorem fetch_next_bus {v : Instr × State} (h : fetch s = .next v) : ∃ done, v.2.bus = s.bus.afterCalls done := by
  rcases decode_bytesAtPc s with ⟨i, rest, hd⟩ | ⟨op, hd⟩
  · rw [fetch_decode s hd] at h
    obtain ⟨rfl, -⟩ := guarded_eq_next _ _ _ h
    exact ⟨_, afterFetch_bus s _⟩
  · rw [(fetch_undefined s hd).2] at h
    split at h <;> cases h

theorem step_busFault_bus (h : step s = .fault (.busFault a k pc0 b)) : ∃ done, b = s.bus.afterCalls done := by
  by_cases hr : s.run = .running
  · rw [step_running hr] at h
    rcases (andThen_eq_fault _).1 h with h | ⟨v, hv, h⟩
    · exact fetch_busFault_bus h
    · rcases (andThen_eq_fault _).1 h with h | ⟨u, -, h⟩
      · obtain ⟨reads, hreads⟩ := fetch_next_bus hv
        obtain ⟨done, rfl⟩ := exec_busFault_bus h
        exact ⟨reads ++ done, by rw [hreads, afterCalls_append]⟩
      · cases h
  · rw [step_idle hr] at h
    cases h

theorem interrupt_busFault_bus {v : Word} (h : interrupt v s = .fault (.busFault a k pc0 b)) :
    ∃ done, b = s.bus.afterCalls done := by
  unfold interrupt at h
  split at h
  · rcases (andThen_eq_fault _).1 h with h | ⟨u, -, h⟩
    · rw [enterInterrupt_eq] at h
      exact guarded_busFault_bus h
    · cases h
  · cases h

/-- A step transaction ends in a fault only where the step does. -/
theorem transact_step_eq_fault {r : Fault} (h : transact .step s = .fault r) : step s = .fault r := by
  unfold transact at h
  cases hs : step s with
  | next | refused => rw [hs] at h; cases h
  | fault f =>
    rw [hs] at h
    cases f <;> cases h
    rfl

/-- Whatever the transaction, the bus of its BusFault is the one that the calls before the rejected one left. -/
theorem transact_busFault_bus {x : Transaction} (h : transact x s = .fault (.busFault a k pc0 b)) :
    ∃ done, b = s.bus.afterCalls done := by
  cases x with
  | step => exact step_busFault_bus (transact_step_eq_fault h)
  | getState | reset | resume => cases h
  | interrupt v => exact interrupt_busFault_bus h

end Sys2Proof.Machine
end

section
/-! PROOFS. The invariant `State.Inv` (R36, R37): reset meets it, and every transaction keeps it. -/

namespace Sys2Proof.Machine

variable {s t : State}

theorem resetInto_inv (p : ResetProfile) (v : PowerOnDraw) {bus : Bus} (h : bus.mem.wf = true) :
    (State.resetInto p v bus).Inv where
  lowNibble := by
    cases p with
    | powerOn => exact and_F0_lowNibble v.f
    | postBootDmg =>
      show (0xB0 : Byte) &&& 0x0F = 0
      decide
  memory := by cases p <;> exact h

theorem idleTick_inv (h : s.Inv) : (idleTick s).Inv := ⟨h.lowNibble, h.memory⟩

theorem promote_inv (sampled : Bool) (h : s.Inv) : (promote sampled s).Inv where
  lowNibble := by rw [promote_f]; exact h.lowNibble
  memory := by rw [promote_bus]; exact h.memory

theorem afterFetch_inv (n : Nat) (h : s.Inv) : (s.afterFetch n).Inv := ⟨h.lowNibble, h.memory⟩

theorem result_inv (o : Form) (h : s.Inv) : (o.result s).Inv where
  lowNibble := by
    rw [result_lowNibble]
    split
    · rfl
    · exact h.lowNibble
  memory := result_wf o h.memory

theorem step_inv (h : s.Inv) (hs : step s = .next t) : t.Inv := by
  rcases step_inversion hs with ⟨-, rfl⟩ | ⟨-, i, rest, -, rfl, -⟩
  · exact idleTick_inv h
  · exact promote_inv _ (result_inv _ (afterFetch_inv _ h))

theorem resume_inv (h : s.Inv) : (resume s).Inv := by
  rw [resume_eq]
  exact ⟨h.lowNibble, h.memory⟩

theorem enterInterrupt_inv {v : Word} (h : s.Inv) (hs : enterInterrupt v s = .next t) : t.Inv := by
  rw [enterInterrupt_eq] at hs
  obtain ⟨rfl, -⟩ := guarded_eq_next _ _ _ hs
  exact ⟨h.lowNibble, afterWriteWord_wf _ _ _ h.memory⟩

theorem transact_inv {x : Transaction} {r : Response} (h : s.Inv) (hx : transact x s = .next (r, t)) : t.Inv := by
  cases x with
  | step =>
    rcases transact_step_inversion hx with ⟨hs, -⟩ | ⟨_, _, -, -, rfl⟩
    · exact step_inv h hs
    · exact ⟨h.lowNibble, h.memory⟩
  | getState => cases hx; exact h
  | reset p v => cases hx; exact resetInto_inv p v h.memory
  | resume => cases hx; exact resume_inv h
  | interrupt v =>
    rcases interrupt_inversion hx with ⟨-, -, rfl⟩ | ⟨-, -, hs⟩
    · exact h
    · exact enterInterrupt_inv h hs

end Sys2Proof.Machine

open Sys2Proof Sys2Proof.Machine

/-- Settles O10: a step ends in an idle tick or in a form's result (`step_inversion`), each of which keeps the
invariant, and the bus of a BusFault is the one that accepted calls left. -/
theorem everyTransactionKeepsTheInvariant : Obligations.EveryTransactionKeepsTheInvariant := by
  refine ⟨fun s t h hs => step_inv h hs, fun x s t r h hx => transact_inv h hx, ?_⟩
  intro x s a pc0 k b h hx
  obtain ⟨done, rfl⟩ := transact_busFault_bus hx
  exact afterCalls_wf _ done h.memory

/-- Settles O11. -/
theorem resetMeetsTheInvariant : Obligations.ResetMeetsTheInvariant :=
  ⟨resetInto_inv _ _ rfl, fun p v _ h => resetInto_inv p v h⟩

/-- Settles O12: `State.resetInto` writes the fields of R48 one by one; the last clause is its default profile. -/
theorem resetWritesTheResetValues : Obligations.ResetWritesTheResetValues :=
  ⟨fun _ _ => rfl, fun _ _ => rfl, rfl, rfl, rfl, rfl, rfl, resetMeetsTheInvariant.1.lowNibble⟩

end

section
/-! PROOFS. The frames of the instructions, the register pairs, the flag primitives and the host's transactions. -/

namespace Sys2Proof.Machine

/-- A written pair reads back (R34). -/
@[simp] theorem pair_setPair (s : State) (p : Pair) (v : Word) : (s.setPair p v).pair p = v := by
  cases p with
  | sp => rfl
  | bc | de | hl => exact pairOf_hi_lo v

end Sys2Proof.Machine

open Sys2Proof Sys2Proof.Machine

/-- Settles O17, from the frame of F of each form's result. -/
theorem otherFlagsAreUnchanged : Obligations.OtherFlagsAreUnchanged := by
  intro i s t h
  obtain ⟨rfl, -⟩ := exec_inversion h
  refine ⟨fun k hk => result_testFlag s _ k hk, ?_⟩
  rw [result_lowNibble]
  simp only [form_eq_popAf_iff]

/-- Settles O18, from the frames of SP and the control state of each form's result. -/
theorem otherControlStateIsUnchanged : Obligations.OtherControlStateIsUnchanged := by
  intro i s t h
  obtain ⟨rfl, -⟩ := exec_inversion h
  exact ⟨result_sp_of_not_writesSp s _, result_run_of_not_writesRun s _, result_ime_of_not_writesIme s _,
    result_imePending_of_not_writesPending s _⟩

/-- Settles O21: a pair's value is `pairOf` of its halves, and `hiByte` and `loByte` are the quotient and the
remainder by 256. -/
theorem pairsAreViewsOfTheirHalves : Obligations.PairsAreViewsOfTheirHalves := by
  refine ⟨fun s => ?_, fun s v => ?_, pair_setPair⟩
  · exact ⟨pairOf_toNat .., pairOf_toNat .., pairOf_toNat .., pairOf_toNat .., rfl, rfl, rfl⟩
  · rw [← hiByte_eq, ← loByte_eq]
    exact ⟨rfl, rfl, rfl, rfl, rfl, rfl, rfl⟩

/-- Settles O22: a flag is its bit of F, and `assignFlag` writes that bit alone. -/
theorem flagPrimitivesTouchOneBit : Obligations.FlagPrimitivesTouchOneBit :=
  ⟨fun _ => ⟨testFlag_eq .zero _, testFlag_eq .subtract _, testFlag_eq .halfCarry _, testFlag_eq .carry _⟩,
    fun k k' v f => testFlag_assignFlag k' k v f, fun _ _ => ⟨rfl, rfl⟩, assignFlag_lowNibble⟩

/-- Settles O60: `getState` copies the fields, and `resume` writes the run state alone. -/
theorem getStateAndResume : Obligations.GetStateAndResume := by
  refine ⟨fun _ => rfl, fun s _ => ?_, fun s h => ?_⟩
  · rw [transact, resume_eq]
  · rw [transact, resume_of_running h]

end

section
/-! PROOFS. A canonical memory is determined by what it reads: its cells are the addresses that read as something else
than `OPEN_BUS_VALUE`, in rising order. -/

namespace Sys2Proof.Machine

/-- In a list of rising addresses, the byte listed at an address is the one of its only cell there. -/
theorem lookupCell_eq_some_iff {a : Nat} {v : Byte} {l : List Host.Cell} (h : l.Pairwise fun x y => x.1 < y.1) :
    lookupCell a l = some v ↔ (a, v) ∈ l := by
  induction l with
  | nil => simp [lookupCell]
  | cons x rest ih =>
    obtain ⟨hx, hrest⟩ := List.pairwise_cons.1 h
    rw [lookupCell, List.mem_cons]
    split
    · next hxa =>
      have hnot : (a, v) ∉ rest := fun hm => (hx _ hm).ne hxa
      simp [hnot, Prod.ext_iff, hxa, eq_comm]
    · next hxa =>
      have hne : (a, v) ≠ x := fun he => hxa (congrArg Prod.fst he).symm
      rw [ih hrest, or_iff_right hne]

/-- The cells of a canonical memory, from its reads. -/
theorem Memory.mem_cells_iff {m : Memory} (h : m.wf = true) (x : Host.Cell) :
    x ∈ m.cells ↔ ∃ a : Word, x = (a.toNat, m.read a) ∧ m.read a ≠ m.openBus := by
  obtain ⟨hrising, hcells⟩ := (Memory.wf_iff m).1 h
  constructor
  · intro hx
    obtain ⟨hlt, hne⟩ := hcells x hx
    obtain ⟨n, v⟩ := x
    have hn : (BitVec.ofNat 16 n).toNat = n := by rw [BitVec.toNat_ofNat, Nat.mod_eq_of_lt hlt]
    have hread : m.read (BitVec.ofNat 16 n) = v := by
      rw [Memory.read, hn, (lookupCell_eq_some_iff hrising).2 hx, Option.getD_some]
    exact ⟨BitVec.ofNat 16 n, by rw [hn, hread], by rwa [hread]⟩
  · rintro ⟨a, rfl, hne⟩
    rw [← lookupCell_eq_some_iff hrising]
    cases hl : lookupCell a.toNat m.cells with
    | none => exact absurd (by rw [Memory.read, hl]; rfl) hne
    | some v => rw [Memory.read, hl, Option.getD_some]

/-- Canonical memories that read the same everywhere are equal. -/
theorem Memory.eq_of_read_eq {m m' : Memory} (h : m.wf = true) (h' : m'.wf = true) (ho : m.openBus = m'.openBus)
    (hr : ∀ a : Word, m.read a = m'.read a) : m = m' := by
  have hmem (x : Host.Cell) : x ∈ m.cells ↔ x ∈ m'.cells := by
    simp only [Memory.mem_cells_iff h, Memory.mem_cells_iff h', hr, ho]
  obtain ⟨hrising, -⟩ := (Memory.wf_iff m).1 h
  obtain ⟨hrising', -⟩ := (Memory.wf_iff m').1 h'
  have hnodup {l : List Host.Cell} (hl : l.Pairwise fun x y => x.1 < y.1) : l.Nodup :=
    hl.imp fun hlt he => hlt.ne (congrArg Prod.fst he)
  have hcells : m.cells = m'.cells :=
    ((List.perm_ext_iff_of_nodup (hnodup hrising) (hnodup hrising')).2 hmem).eq_of_pairwise
      (fun _ _ _ _ hxy hyx => absurd hyx hxy.asymm) hrising hrising'
  cases m
  cases m'
  cases hcells
  cases ho
  rfl

end Sys2Proof.Machine

open Sys2Proof Sys2Proof.Machine

/-- Settles O24: two canonical lists with the same cells are one list, and the reads give the cells. -/
theorem canonicalMemoryIsDeterminedByItsReads : Obligations.CanonicalMemoryIsDeterminedByItsReads :=
  ⟨Memory.read_write, fun _ a v h => Memory.wf_write h a v, fun _ _ => Memory.eq_of_read_eq⟩

end

section
/-! PROOFS. A word access is two byte accesses (R73, R75), and a list of calls changes no byte but those it writes. -/

namespace Sys2Proof.Machine

variable (b : Bus) (a c v : Word)

/-- Nothing is rejected where something is mapped. -/
theorem rejects_of_mapped {k : Access} (h : b.unmapped k a = false) : b.rejects k a = false := by
  rw [Bus.rejects, h, Bool.and_false]

/-- A byte outside the word reads as before its write. -/
theorem peek_afterWriteWord_of_ne (h : c ≠ a) (h' : c ≠ a + 1) : (b.afterWriteWord a v).peek c = b.peek c := by
  rw [Bus.afterWriteWord, peek_afterWrite_of_ne _ _ _ _ h', peek_afterWrite_of_ne _ _ _ _ h]

/-- The low byte of a written word is at its address. -/
theorem peek_afterWriteWord_lo (hr : b.unmapped .read a = false) (hw : b.unmapped .write a = false) :
    (b.afterWriteWord a v).peek a = loByte v := by
  rw [Bus.afterWriteWord, peek_afterWrite_of_ne _ _ _ _ (word_add_one_ne a).symm, peek_afterWrite_self _ _ _ hr hw]

/-- The high byte of a written word is at the next address. -/
theorem peek_afterWriteWord_hi (hr : b.unmapped .read (a + 1) = false) (hw : b.unmapped .write (a + 1) = false) :
    (b.afterWriteWord a v).peek (a + 1) = hiByte v :=
  peek_afterWrite_self _ _ _ hr hw

@[simp] theorem afterWriteWord_events :
    (b.afterWriteWord a v).events = b.events ++ [.write a (loByte v), .write (a + 1) (hiByte v)] := by
  simp [Bus.afterWriteWord]

/-- A word write completes where the bus accepts both of its bytes. -/
theorem writeWord_accepted (s : State) (h : s.bus.rejects .write a = false)
    (h' : s.bus.rejects .write (a + 1) = false) :
    writeWord a v s = .next { s with bus := s.bus.afterWriteWord a v } := by
  rw [writeWord_eq]
  exact guarded_accepted _ _ _ (by simpa [wordWrites, h] using h')

/-- A word read completes where the bus accepts both of its bytes. -/
theorem readWord_accepted (s : State) (h : s.bus.rejects .read a = false)
    (h' : s.bus.rejects .read (a + 1) = false) :
    readWord a s = .next (s.bus.peekWord a, { s with bus := s.bus.afterReadWord a }) := by
  rw [readWord_eq]
  exact guarded_accepted _ _ _ (by simpa [wordReads, h] using h')

/-- A word read only adds its two events. -/
theorem afterReadWord_eq :
    b.afterReadWord a = { b with events := b.events ++ [.read a, .read (a + 1)] } := by
  simp [Bus.afterReadWord, Bus.afterRead]

variable (calls : List BusEvent)

@[simp] theorem afterCalls_holes : (b.afterCalls calls).holes = b.holes := by
  induction calls generalizing b with
  | nil => rfl
  | cons e l ih => rw [afterCalls_cons, ih]; cases e <;> rfl

@[simp] theorem afterCalls_faultEnabled : (b.afterCalls calls).faultEnabled = b.faultEnabled := by
  induction calls generalizing b with
  | nil => rfl
  | cons e l ih => rw [afterCalls_cons, ih]; cases e <;> rfl

@[simp] theorem afterCalls_openBus : (b.afterCalls calls).mem.openBus = b.mem.openBus := by
  induction calls generalizing b with
  | nil => rfl
  | cons e l ih => rw [afterCalls_cons, ih]; cases e <;> simp

/-- A byte that no call of a list writes reads as before them. -/
theorem peek_afterCalls_of_not_written (h : (Access.write, a) ∉ calls.map BusEvent.access) :
    (b.afterCalls calls).peek a = b.peek a := by
  induction calls generalizing b with
  | nil => rfl
  | cons e l ih =>
    rw [List.map_cons, List.mem_cons, not_or] at h
    obtain ⟨he, hl⟩ := h
    rw [afterCalls_cons, ih _ hl]
    cases e with
    | read c => rfl
    | write c w => exact peek_afterWrite_of_ne _ _ _ _ fun hac => he (by rw [hac]; rfl)

end Sys2Proof.Machine

open Sys2Proof Sys2Proof.Machine

/-- Settles O19: the bus an instruction ends with is the one its calls leave (`result_bus`). -/
theorem otherMemoryIsUnchanged : Obligations.OtherMemoryIsUnchanged := by
  intro i s t h
  obtain ⟨rfl, -⟩ := exec_inversion h
  rw [result_bus]
  exact ⟨fun a ha => peek_afterCalls_of_not_written _ _ _ ha, afterCalls_holes .., afterCalls_faultEnabled ..,
    afterCalls_openBus ..⟩

/-- Settles O23: the bus after a word access is the bus after its two byte accesses. -/
theorem wordAccessesAreTwoByteAccesses : Obligations.WordAccessesAreTwoByteAccesses := by
  refine ⟨fun s a v h => ?_, fun s a h h' => ?_⟩
  · simp only [Bool.or_eq_false_iff] at h
    obtain ⟨⟨⟨hr, hw⟩, hr'⟩, hw'⟩ := h
    rw [← hiByte_eq, ← loByte_eq]
    exact ⟨_, writeWord_accepted a v s (rejects_of_mapped _ _ hw) (rejects_of_mapped _ _ hw'),
      peek_afterWriteWord_lo _ _ _ hr hw, peek_afterWriteWord_hi _ _ _ hr' hw',
      fun c hc hc' => peek_afterWriteWord_of_ne _ _ _ _ hc hc', afterWriteWord_events ..⟩
  · exact ⟨_, _, readWord_accepted a s h h', pairOf_toNat .., by rw [afterReadWord_eq]⟩

end

section
/-! PROOFS. The length of an encoding, by form, and that the decoder consumes exactly that many bytes (R100, R118). -/

namespace Sys2Proof

/-- The number of bytes of a form: its opcode, or 0xCB and the sub-opcode, and its immediate (R100). -/
def Form.length (o : Form) : Nat :=
  match o with
  | .ldRegImm _ _ | .ldMemImm _ | .ldhAImm _ | .ldhImmA _ | .ldHlSp _ | .aluImm _ _ | .addSp _ | .rot _ _ | .bit _ _
  | .res _ _ | .set _ _ | .jr _ | .jrCc _ _ | .stop _ => 2
  | .ldAAbs _ | .ldAbsA _ | .ldPairImm _ _ | .ldAbsSp _ | .jp _ | .jpCc _ _ | .call _ | .callCc _ _ => 3
  | _ => 1

/-- The encoder writes as many bytes as the form has. -/
theorem encode_instr_length (o : Form) : (encode o.instr).length = o.length := by
  cases o with
  | ldRegReg rd rs => cases rd <;> cases rs <;> rfl
  | alu op x | rot op x | bit op x | res op x | set op x =>
    rcases x with r | _
    · cases op <;> cases r <;> rfl
    · cases op <;> rfl
  | incR8 x | decR8 x =>
    rcases x with r | _
    · cases r <;> rfl
    · rfl
  | ldRegMem r | ldMemReg r | ldRegImm r _ | ldAPtr r | ldPtrA r | ldPairImm r _ | push r | pop r | aluImm r _
  | addHl r | incPair r | decPair r | jpCc r _ | jrCc r _ | callCc r _ | rst r | retCc r => cases r <;> rfl
  | _ => rfl

variable (op b1 b2 : Byte)

theorem cbForm_length : (cbForm op).length = 2 := by
  unfold cbForm
  split <;> rfl

theorem shapeX0_form_length : ((shapeX0 op).form b1 b2).length = (shapeX0 op).length := by
  unfold shapeX0
  repeat' split
  all_goals rfl

theorem shapeX1_form_length : ((shapeX1 op).form b1 b2).length = (shapeX1 op).length := by
  unfold shapeX1
  split <;> rfl

theorem shapeX3_form_length (h : shapeX3 op ≠ .undefined) :
    ((shapeX3 op).form b1 b2).length = (shapeX3 op).length := by
  unfold shapeX3 at h ⊢
  split at h
  · split <;> rfl
  · split
    · rfl
    · split <;> rfl
  · split <;> rfl
  · split at h
    · rfl
    · exact cbForm_length b1
    · rfl
    · rfl
    · exact absurd rfl h
  · split at h
    · rfl
    · rfl
    · rfl
    · rfl
    · exact absurd rfl h
  · split at h
    · rfl
    · split at h
      · rfl
      · exact absurd rfl h
  · rfl
  · rfl

/-- The form that the decoder makes has as many bytes as the decoder reads for it. -/
theorem baseShape_form_length (h : baseShape op ≠ .undefined) :
    ((baseShape op).form b1 b2).length = (baseShape op).length := by
  unfold baseShape at h ⊢
  split at h
  · exact shapeX0_form_length op b1 b2
  · exact shapeX1_form_length op b1 b2
  · rfl
  · exact shapeX3_form_length op b1 b2 h

variable {op b1 b2}

/-- An instruction decoded from three bytes leaves those that its encoding does not have. -/
theorem encode_length_of_decode {i : Instr} {rest : List Byte}
    (h : decode [op, b1, b2] = .instr i rest) : (encode i).length = 3 - rest.length := by
  have hlen := baseShape_form_length op b1 b2
  rw [Machine.decode_three] at h
  cases hx : baseShape op with
  | undefined =>
    rw [hx] at h
    cases h
  | plain | imm8 | imm16 | prefixCB =>
    rw [hx] at h hlen
    cases h
    rw [encode_instr_length, hlen nofun]
    rfl

end Sys2Proof

open Sys2Proof Sys2Proof.Machine

/-- Settles O20: a step is its fetch and then the form's result (`step_inversion`), and each leaves the bus that its
calls leave (`afterFetch_bus`, `result_bus`). -/
theorem busEventsAreTheFetchThenTheAccesses : Obligations.BusEventsAreTheFetchThenTheAccesses := by
  refine ⟨fun s t i rest hr hd h => ?_, fun i s t h => ?_⟩
  · rcases step_inversion h with ⟨hn, -⟩ | ⟨-, j, rest', hd', rfl, -⟩
    · exact absurd hr hn
    · rw [hd] at hd'
      cases hd'
      rw [bytesAtPc_three] at hd
      rw [promote_bus, result_bus, afterFetch_calls, afterFetch_bus, ← afterCalls_append, afterCalls_events,
        encode_length_of_decode hd, List.append_assoc]
      exact ⟨rfl, rfl⟩
  · obtain ⟨rfl, -⟩ := exec_inversion h
    rw [result_bus, afterCalls_events]
    exact ⟨rfl, rfl⟩

end

section
/-! PROOFS. The decoder and the encoder undo each other (R101, R118): one equation of the decoder for each shape of the
first byte, and the opcode maps of R112 and R113 read row by row. -/

namespace Sys2Proof

/-! ## The decoder, by the shape of the first byte -/

section
variable {op : Byte} (rest : List Byte)

theorem decodeForm_plain {o : Form} (h : baseShape op = .plain o) : decodeForm (op :: rest) = .form o rest := by
  simp only [decodeForm, h]

theorem decodeForm_imm8 {o : Byte → Form} (h : baseShape op = .imm8 o) (n : Byte) :
    decodeForm (op :: n :: rest) = .form (o n) rest := by
  simp only [decodeForm, h]

theorem decodeForm_imm16 {o : Word → Form} (h : baseShape op = .imm16 o) (lo hi : Byte) :
    decodeForm (op :: lo :: hi :: rest) = .form (o (pairOf hi lo)) rest := by
  simp only [decodeForm, h]

theorem decodeForm_prefixCB (h : baseShape op = .prefixCB) (sub : Byte) :
    decodeForm (op :: sub :: rest) = .form (cbForm sub) rest := by
  simp only [decodeForm, h]

end

/-- Everything that decodes: the first byte's shape, the bytes it takes after it, and the rest. -/
theorem decodeForm_inversion {bs rest : List Byte} {o : Form} (h : decodeForm bs = .form o rest) :
    ∃ op, (baseShape op = .plain o ∧ bs = op :: rest) ∨
      (∃ o' n, baseShape op = .imm8 o' ∧ o = o' n ∧ bs = op :: n :: rest) ∨
      (∃ o' lo hi, baseShape op = .imm16 o' ∧ o = o' (pairOf hi lo) ∧ bs = op :: lo :: hi :: rest) ∨
      ∃ sub, baseShape op = .prefixCB ∧ o = cbForm sub ∧ bs = op :: sub :: rest := by
  unfold decodeForm at h
  split at h
  · cases h
  next op tail =>
    refine ⟨op, ?_⟩
    split at h
    next hx => cases h; exact .inl ⟨hx, rfl⟩
    next hx =>
      split at h
      · cases h; exact .inr (.inl ⟨_, _, hx, rfl, rfl⟩)
      · cases h
    next hx =>
      split at h
      · cases h; exact .inr (.inr (.inl ⟨_, _, _, hx, rfl, rfl⟩))
      · cases h
    next hx =>
      split at h
      · cases h; exact .inr (.inr (.inr ⟨_, hx, rfl, rfl⟩))
      · cases h
    · cases h

/-- The form at the head of a string does not depend on the bytes after it. -/
theorem decodeForm_append {bs rest : List Byte} {o : Form} (h : decodeForm bs = .form o rest) (more : List Byte) :
    decodeForm (bs ++ more) = .form o (rest ++ more) := by
  obtain ⟨op, ⟨hx, rfl⟩ | ⟨o, n, hx, rfl, rfl⟩ | ⟨o, lo, hi, hx, rfl, rfl⟩ | ⟨sub, hx, rfl, rfl⟩⟩ :=
    decodeForm_inversion h
  · exact decodeForm_plain _ hx
  · exact decodeForm_imm8 _ hx n
  · exact decodeForm_imm16 _ hx lo hi
  · exact decodeForm_prefixCB _ hx sub

/-- A string that is as long as its first byte's shape says is one whole form. -/
theorem decodeForm_of_length {bs : List Byte} (hne : bs ≠ []) (hlen : bs.length = (baseShape (bs.headD 0)).length) :
    ∃ o, decodeForm bs = .form o [] := by
  obtain ⟨op, tail, rfl⟩ := List.exists_cons_of_ne_nil hne
  change tail.length + 1 = (baseShape op).length at hlen
  cases hx : baseShape op with
  | plain o =>
    rw [hx] at hlen
    obtain rfl := List.length_eq_zero_iff.1 (Nat.succ.inj hlen)
    exact ⟨_, decodeForm_plain _ hx⟩
  | imm8 o =>
    rw [hx] at hlen
    obtain ⟨n, rfl⟩ := List.length_eq_one_iff.1 (Nat.succ.inj hlen)
    exact ⟨_, decodeForm_imm8 _ hx n⟩
  | imm16 o =>
    rw [hx] at hlen
    obtain ⟨lo, hi, rfl⟩ := List.length_eq_two.1 (Nat.succ.inj hlen)
    exact ⟨_, decodeForm_imm16 _ hx lo hi⟩
  | prefixCB =>
    rw [hx] at hlen
    obtain ⟨sub, rfl⟩ := List.length_eq_one_iff.1 (Nat.succ.inj hlen)
    exact ⟨_, decodeForm_prefixCB _ hx sub⟩
  | undefined =>
    rw [hx] at hlen
    cases hlen

/-- An instruction's encoding decodes to the instruction's form, with nothing after it. -/
theorem decodeForm_encode (i : Instr) : decodeForm (encode i) = .form i.form [] := by
  obtain ⟨o, ho⟩ := decodeForm_of_length (encode_ne_nil i) (encode_length i)
  rw [Instr.form, ho]

/-- What decodes to an instruction decodes to one of its forms. -/
theorem decode_eq_instr_iff {bs rest : List Byte} {i : Instr} :
    decode bs = .instr i rest ↔ ∃ o, decodeForm bs = .form o rest ∧ o.instr = i := by
  unfold decode
  cases decodeForm bs <;> simp [and_comm]

/-! ## The opcode maps, row by row -/

/-- The rows of R112 without an immediate. -/
theorem encode_of_plain : ∀ (op : Byte) {o : Form}, baseShape op = .plain o → encode o.instr = [op] := by
  refine byte_cases fun n hn o h => ?_
  interval_cases n <;> cases h <;> rfl

/-- The rows of R112 with one immediate byte. -/
theorem encode_of_imm8 : ∀ (op : Byte) {o : Byte → Form}, baseShape op = .imm8 o →
    ∀ n, encode (o n).instr = [op, n] := by
  refine byte_cases fun k hk o h n => ?_
  interval_cases k <;> cases h <;> rfl

/-- The rows of R112 with two immediate bytes, the low one first (R74). -/
theorem encode_of_imm16 : ∀ (op : Byte) {o : Word → Form}, baseShape op = .imm16 o →
    ∀ w, encode (o w).instr = [op, loByte w, hiByte w] := by
  refine byte_cases fun k hk o h w => ?_
  interval_cases k <;> cases h <;> rfl

/-- The rows of R113. -/
theorem encode_cbForm : ∀ sub : Byte, encode (cbForm sub).instr = [0xCB, sub] := by
  refine byte_cases fun n hn => ?_
  interval_cases n <;> rfl

/-- 0xCB alone is the prefix. -/
theorem eq_CB_of_prefixCB : ∀ op : Byte, baseShape op = .prefixCB → op = 0xCB := by
  refine byte_cases fun n hn h => ?_
  interval_cases n <;> cases h
  rfl

/-- What decodes to a form is that form's encoding and the rest. -/
theorem eq_encode_append_of_decodeForm {bs rest : List Byte} {o : Form} (h : decodeForm bs = .form o rest) :
    bs = encode o.instr ++ rest := by
  obtain ⟨op, ⟨hx, rfl⟩ | ⟨o, n, hx, rfl, rfl⟩ | ⟨o, lo, hi, hx, rfl, rfl⟩ | ⟨sub, hx, rfl, rfl⟩⟩ :=
    decodeForm_inversion h
  · rw [encode_of_plain op hx]; rfl
  · rw [encode_of_imm8 op hx]; rfl
  · rw [encode_of_imm16 op hx, loByte_pairOf, hiByte_pairOf]; rfl
  · rw [encode_cbForm, eq_CB_of_prefixCB op hx]; rfl

end Sys2Proof

open Sys2Proof Sys2Proof.Machine

/-- Settles O1: an encoding is as long as its first byte says, so it decodes whole (`decodeForm_encode`), and the bytes
after it do not matter (`decodeForm_append`). -/
theorem decodeOfEncodeIsTheInstruction : Obligations.DecodeOfEncodeIsTheInstruction :=
  fun i rest => decode_eq_instr_iff.2 ⟨i.form, decodeForm_append (decodeForm_encode i) rest, form_instr i⟩

/-- Settles O2: the bytes a form was decoded from are those the encoder writes for it, row by row of the opcode maps
(`eq_encode_append_of_decodeForm`). -/
theorem encodeOfDecodeIsTheBytes : Obligations.EncodeOfDecodeIsTheBytes := by
  intro bs i rest h
  obtain ⟨o, ho, rfl⟩ := decode_eq_instr_iff.1 h
  exact eq_encode_append_of_decodeForm ho

end

section
/-! PROOFS. Which byte strings are one whole instruction (R100, R114, R116), and what of them the fetch refuses. -/

namespace Sys2Proof

/-- The length that a shape gives says whether it is the one of an undefined opcode. -/
theorem Shape.length_eq_zero_iff {x : Shape} : x.length = 0 ↔ x = .undefined := by
  cases x <;> simp [Shape.length]

/-- R114: the first bytes without a shape are the eleven undefined opcodes. -/
theorem baseShape_eq_undefined_iff {op : Byte} : baseShape op = .undefined ↔ op ∈ undefinedOpcodes := by
  rw [← Shape.length_eq_zero_iff]
  revert op
  decide

/-- R116 agrees with the decoder on the length. -/
theorem instructionLength_eq : ∀ op : Byte, op ∉ undefinedOpcodes → instructionLength op = (baseShape op).length := by
  decide

theorem encodingWellFormed_iff {bs : List Byte} : encodingWellFormed bs = true ↔
    bs ≠ [] ∧ bs.headD 0 ∉ undefinedOpcodes ∧ bs.length = instructionLength (bs.headD 0) := by
  simp [encodingWellFormed, hasOpcode, opcodeDefined, lengthExact, and_assoc]

variable (i : Instr)

theorem encode_length_pos : 0 < (encode i).length := List.length_pos_iff.2 (encode_ne_nil i)

/-- No encoding begins with an undefined opcode, whose shape has no length. -/
theorem encode_head_not_undefined : (encode i).headD 0 ∉ undefinedOpcodes := by
  rw [← baseShape_eq_undefined_iff, ← Shape.length_eq_zero_iff, ← encode_length]
  exact (encode_length_pos i).ne'

theorem encode_length_eq_instructionLength : (encode i).length = instructionLength ((encode i).headD 0) := by
  rw [instructionLength_eq _ (encode_head_not_undefined i), encode_length]

theorem Shape.length_le_three (x : Shape) : x.length ≤ 3 := by
  cases x <;> simp [Shape.length]

/-- A well-formed string decodes whole, and so it is the encoding of what it decodes to. -/
theorem encodingWellFormed_iff_encode {bs : List Byte} : encodingWellFormed bs = true ↔ ∃ i, encode i = bs := by
  rw [encodingWellFormed_iff]
  constructor
  · rintro ⟨hne, hop, hlen⟩
    rw [instructionLength_eq _ hop] at hlen
    obtain ⟨o, ho⟩ := decodeForm_of_length hne hlen
    exact ⟨o.instr, by rw [eq_encode_append_of_decodeForm ho, List.append_nil]⟩
  · rintro ⟨i, rfl⟩
    exact ⟨encode_ne_nil i, encode_head_not_undefined i, encode_length_eq_instructionLength i⟩

/-- The decoder rejects a string exactly where its first byte has no shape. -/
theorem decode_eq_undefinedOpcode_iff {op : Byte} {rest : List Byte} :
    decode (op :: rest) = .undefinedOpcode op ↔ baseShape op = .undefined := by
  unfold decode
  simp only [decodeForm]
  cases baseShape op with
  | undefined | plain => simp
  | imm8 | imm16 | prefixCB => rcases rest with _ | ⟨b, _ | ⟨c, rest⟩⟩ <;> simp

namespace Machine

/-- A list of bus calls raises no InvalidOpcode: its faults are BusFaults. -/
theorem guarded_ne_invalidOpcode {α : Type} {pc pc' : Word} {b : Bus} {calls : List BusEvent} {t : α} {op : Byte} :
    guarded pc b calls t ≠ .fault (.invalidOpcode op pc') := by
  intro h
  obtain ⟨_, _, _, -, -, -, he⟩ := guarded_eq_fault _ _ _ h
  cases he

/-- Only an undefined opcode raises InvalidOpcode: the other faults of a fetch and of an executor are BusFaults. -/
theorem step_invalidOpcode_shape {s : State} {op : Byte} {pc : Word} (h : step s = .fault (.invalidOpcode op pc)) :
    baseShape (s.bus.peek s.pc) = .undefined := by
  by_cases hr : s.run = .running
  · rw [step_running hr] at h
    rcases (andThen_eq_fault _).1 h with h | ⟨v, -, h⟩
    · rw [fetch_eq] at h
      cases hx : baseShape (s.bus.peek s.pc) with
      | undefined => rfl
      | plain | imm8 | imm16 | prefixCB =>
        rw [hx] at h
        exact absurd h guarded_ne_invalidOpcode
    · rcases (andThen_eq_fault _).1 h with h | ⟨u, -, h⟩
      · rw [exec_eq_run, run_eq] at h
        exact absurd h guarded_ne_invalidOpcode
      · cases h
  · rw [step_idle hr] at h
    cases h

end Machine

end Sys2Proof

open Sys2Proof Sys2Proof.Machine

/-- Settles O3: `encodingWellFormed_iff_encode`, and the length of an encoding is the one of its first byte's shape. -/
theorem wellFormedStringsAreTheEncodings : Obligations.WellFormedStringsAreTheEncodings := by
  refine ⟨fun bs => encodingWellFormed_iff_encode, fun i => ⟨encode_length_eq_instructionLength i,
    encode_length_pos i, ?_, fun h => ?_⟩⟩
  · rw [encode_length]
    exact Shape.length_le_three _
  · rw [encode_length, h]
    rfl

/-- Settles O4: the decoder rejects where the first byte has no shape, which the eleven alone have not; the prefix has
one. -/
theorem theElevenOpcodesAreUndefined : Obligations.TheElevenOpcodesAreUndefined := by
  refine ⟨fun op rest => ?_, fun sub rest => ⟨(cbForm sub).instr, rfl⟩, fun s op pc hcb h => ?_⟩
  · exact decode_eq_undefinedOpcode_iff.trans baseShape_eq_undefined_iff
  · have hx := step_invalidOpcode_shape h
    rw [hcb] at hx
    cases hx

/-- Settles O5, by running the decoder on each of the eleven strings. -/
theorem writtenWordsDecode : Obligations.WrittenWordsDecode :=
  ⟨rfl, rfl, rfl, rfl, rfl, rfl, rfl, rfl, rfl, rfl, rfl⟩

end

section
/-! PROOFS. What an instruction adds to the counter and to PC, form by form, against the cycle grids (R117, R145,
R146). -/

namespace Sys2Proof

/-- A pair of costs by the operand: a register, or (HL) with its bus access (R117). -/
def R8.cycles (x : R8) (register memory : Nat) : Nat × Nat :=
  match x with
  | .reg _ => (register, register)
  | .atHL => (memory, memory)

/-- The costs of a form, (not taken, taken). -/
def Form.cycles (o : Form) : Nat × Nat :=
  match o with
  | .alu _ x => x.cycles 4 8
  | .incR8 x | .decR8 x => x.cycles 4 12
  | .bit _ x => x.cycles 8 12
  | .rot _ x | .res _ x | .set _ x => x.cycles 8 16
  | .jpCc _ _ => (12, 16)
  | .jrCc _ _ => (8, 12)
  | .callCc _ _ => (12, 24)
  | .retCc _ => (8, 20)
  | .ldRegMem _ | .ldMemReg _ | .ldRegImm _ _ | .ldAPtr _ | .ldPtrA _ | .ldAHli | .ldAHld | .ldHliA | .ldHldA | .ldhAC
  | .ldhCA | .ldSpHl | .aluImm _ _ | .addHl _ | .incPair _ | .decPair _ => (8, 8)
  | .ldMemImm _ | .ldhAImm _ | .ldhImmA _ | .ldPairImm _ _ | .ldHlSp _ | .pop _ | .jr _ => (12, 12)
  | .ldAAbs _ | .ldAbsA _ | .push _ | .addSp _ | .jp _ | .rst _ | .ret | .reti => (16, 16)
  | .ldAbsSp _ => (20, 20)
  | .call _ => (24, 24)
  | .ldRegReg _ _ | .daa | .cpl | .scf | .ccf | .rlca | .rrca | .rla | .rra | .jpHl | .nop | .halt | .stop _ | .di
  | .ei => (4, 4)

/-- Only after the prefix does the grid read past the first byte. -/
theorem tableCycles_cons {op : Byte} (h : op ≠ 0xCB) (rest : List Byte) :
    tableCycles (op :: rest) = tableCycles [op] := by
  rw [tableCycles, tableCycles, List.headD_cons, List.headD_cons, if_neg h, if_neg h]

/-- The grid gives each form's encoding the form's costs. -/
theorem tableCycles_encode (o : Form) : tableCycles (encode o.instr) = o.cycles := by
  cases o with
  | ldRegReg rd rs => cases rd <;> cases rs <;> rfl
  | alu op x | rot op x | bit op x | res op x | set op x =>
    rcases x with r | _
    · cases op <;> cases r <;> rfl
    · cases op <;> rfl
  | incR8 x | decR8 x =>
    rcases x with r | _
    · cases r <;> rfl
    · rfl
  | ldRegMem r | ldMemReg r | ldAPtr r | ldPtrA r | push r | pop r | addHl r | incPair r | decPair r | rst r | retCc r =>
    cases r <;> rfl
  | ldRegImm r | ldPairImm r | aluImm r | jpCc r | jrCc r | callCc r => cases r <;> exact tableCycles_cons (by decide) _
  | ldMemImm | ldAAbs | ldAbsA | ldhAImm | ldhImmA | ldAbsSp | ldHlSp | addSp | jp | jr | call | stop =>
    exact tableCycles_cons (by decide) _
  | _ => rfl

namespace Machine

variable (s : State)

@[simp] theorem applyAlu_pc (op : AluOp) (v : Byte) : (s.applyAlu op v).pc = s.pc := rfl
@[simp] theorem applyAlu_cycles (op : AluOp) (v : Byte) : (s.applyAlu op v).cycles = s.cycles := rfl

theorem retire_pc_of_eq {s u : State} {len : Word} {n : Count} (h : u.pc = s.pc) :
    (retire len n u).pc = s.pc + len := by
  rw [retire_pc, h]

theorem retire_cycles_of_eq {s u : State} {len : Word} {n : Count} (h : u.cycles = s.cycles) :
    (retire len n u).cycles = s.cycles + n := by
  rw [retire_cycles, h]

/-- Every form adds its cost to the counter. (`ldHldA` cites its law by name: the kernel is slow on the step of HL
once `simp` has unfolded it.) -/
theorem result_cycles (o : Form) :
    (o.result s).cycles = s.cycles + BitVec.ofNat 64 (if o.taken s then o.cycles.2 else o.cycles.1) := by
  cases o with
  | jp | jpHl | jr | call | rst | ret | reti => rfl
  | jpCc cc | jrCc cc | callCc cc | retCc cc =>
    change _ = s.cycles + BitVec.ofNat 64 (if condHolds cc s.flags then _ else _)
    rw [Form.result]
    cases condHolds cc s.flags <;> rfl
  | alu _ x | incR8 x | decR8 x | rot _ x | bit _ x | res _ x | set _ x =>
    cases x <;> exact retire_cycles_of_eq (by simp)
  | ldHldA =>
    rw [Form.result]
    exact retire_cycles_of_eq (setPair_cycles ..)
  | _ => exact retire_cycles_of_eq (by simp)

theorem result_cycles_eq_cost (o : Form) : (o.result s).cycles = s.cycles + o.cost s := by
  rw [result_cycles, Form.cost, tableCycles_encode]

/-- A form that does not transfer control ends after its bytes (R145). -/
theorem result_pc_of_endsAtPcNext (o : Form) (h : o.endsAtPcNext s = true) :
    (o.result s).pc = s.pc + BitVec.ofNat 16 o.length := by
  cases o with
  | jp | jpHl | jr | call | rst | ret | reti => cases h
  | jpCc cc | jrCc cc | callCc cc | retCc cc =>
    have hcc : condHolds cc s.flags = false := by rwa [Form.endsAtPcNext, Bool.not_eq_true'] at h
    rw [Form.result, hcc]
    rfl
  | ldHldA =>
    rw [Form.result]
    exact retire_pc_of_eq (setPair_pc ..)
  | _ => exact retire_pc_of_eq (by simp)

end Machine

end Sys2Proof

open Sys2Proof Sys2Proof.Machine

/-- Settles O14: an accepted executor ends in its form's result, whose counter and PC `result_cycles_eq_cost` and
`result_pc_of_endsAtPcNext` give. -/
theorem everyInstructionCompletesAtItsTableCost : Obligations.EveryInstructionCompletesAtItsTableCost := by
  intro i s h
  refine ⟨i.form.result s, ?_, result_cycles_eq_cost s i.form, fun hpc => ?_⟩
  · rw [exec_eq_run, run_eq]
    exact guarded_accepted _ _ _ h
  · rw [result_pc_of_endsAtPcNext s _ hpc, ← encode_instr_length, form_instr]

end

section
/-! PROOFS. What a step is of the instruction at PC, what an idle tick is, and what each transaction adds to the
counter (R143, R146, R151). -/

namespace Sys2Proof.Machine

variable {s t : State}

/-- A running core whose fetch the bus accepts runs the instruction at PC and then promotes the pending bit. -/
theorem step_of_decode {i : Instr} {rest : List Byte} (hr : s.run = .running)
    (hd : decode (s.bytesAtPc 3) = .instr i rest) (ha : s.accepts (s.fetchReads (3 - rest.length)) = true) :
    step s = andThen (exec i (s.afterFetch (3 - rest.length))) fun t => .next (promote s.imePending t) := by
  rw [step_running hr, fetch_decode s hd, guarded_accepted _ _ _ ha]
  rfl

/-- The transaction of a step that reaches a state returns what the counter grew by (R146). -/
theorem transact_step_of_next (h : step s = .next t) : transact .step s = .next (.ok (t.cycles - s.cycles), t) := by
  rw [transact, h]

/-- The fetch moves no flag, so the branch and its cost are those of the state before it. -/
@[simp] theorem afterFetch_cost (n : Nat) (o : Form) : o.cost (s.afterFetch n) = o.cost s := by
  have htaken : o.taken (s.afterFetch n) = o.taken s := by cases o <;> rfl
  rw [Form.cost, htaken, Form.cost]

/-- A step of a running core adds its instruction's cost. -/
theorem step_cycles {i : Instr} {rest : List Byte} (hr : s.run = .running)
    (hd : decode (s.bytesAtPc 3) = .instr i rest) (h : step s = .next t) : t.cycles = s.cycles + i.form.cost s := by
  rcases step_inversion h with ⟨hidle, -⟩ | ⟨-, j, rest', hd', rfl, -⟩
  · exact absurd hr hidle
  · cases hd.symm.trans hd'
    rw [promote_cycles, result_cycles_eq_cost, afterFetch_cycles, afterFetch_cost]

/-- The entry to an interrupt adds 20 (R415). -/
theorem enterInterrupt_cycles {v : Word} (h : enterInterrupt v s = .next t) : t.cycles = s.cycles + 20 := by
  rw [enterInterrupt_eq] at h
  obtain ⟨rfl, -⟩ := guarded_eq_next _ _ _ h
  rfl

/-- Every transaction but `reset()` adds the cycles that its response tells. -/
theorem transact_cycles {x : Transaction} {r : Response} (hx : x.isReset = false)
    (h : transact x s = .next (r, t)) : t.cycles = s.cycles + r.cycles := by
  cases x with
  | step =>
    rcases transact_step_inversion h with ⟨-, rfl⟩ | ⟨op, pc, -, rfl, rfl⟩
    · exact (add_sub_cancel _ _).symm
    · exact (add_zero _).symm
  | getState =>
    cases h
    exact (add_zero _).symm
  | reset => cases hx
  | resume =>
    cases h
    rw [resume_eq]
    exact (add_zero _).symm
  | interrupt v =>
    rcases interrupt_inversion h with ⟨-, rfl, rfl⟩ | ⟨-, rfl, he⟩
    · exact (add_zero _).symm
    · exact enterInterrupt_cycles he

/-- Over a run without a reset the counter grows by the sum of what the responses tell. -/
theorem transactAll_cycles {xs : List Transaction} {rs : List Response}
    (hxs : (xs.all fun x => !x.isReset) = true) (h : transactAll xs s = .next (rs, t)) :
    t.cycles = s.cycles + (rs.map Response.cycles).sum := by
  induction xs generalizing s rs with
  | nil =>
    cases h
    exact (add_zero _).symm
  | cons x xs ih =>
    rw [List.all_cons, Bool.and_eq_true, Bool.not_eq_true'] at hxs
    obtain ⟨hx, hxs⟩ := hxs
    obtain ⟨⟨r, u⟩, hu, h⟩ := (andThen_eq_next _).1 h
    obtain ⟨⟨rs', t'⟩, hrest, h⟩ := (andThen_eq_next _).1 h
    cases h
    rw [ih hxs hrest, transact_cycles hx hu, List.map_cons, List.sum_cons, add_assoc]

end Sys2Proof.Machine

open Sys2Proof Sys2Proof.Machine

/-- Settles O15: `step_cycles` for one step, whose transaction returns the counter's growth, and induction over the run
(`transactAll_cycles`). -/
theorem cyclesAreTheSumOfTheReturnedCosts : Obligations.CyclesAreTheSumOfTheReturnedCosts := by
  refine ⟨fun s t n i rest hr hd h => ?_, fun _ _ _ _ => transactAll_cycles⟩
  rcases transact_step_inversion h with ⟨hs, hn⟩ | ⟨op, pc, -, hn, -⟩
  · cases hn
    have hcost := step_cycles hr hd hs
    exact ⟨sub_eq_of_eq_add' hcost, (add_sub_cancel _ _).symm⟩
  · cases hn

/-- Settles O6: `step_of_decode`, whose `promote` is the statement's last line. -/
theorem stepRunsTheFetchedInstruction : Obligations.StepRunsTheFetchedInstruction :=
  fun _ _ _ => step_of_decode

/-- Settles O9: a core that does not run ticks (`step_idle`), and 4 is what the counter grew by. -/
theorem idleTickOnlyAddsFourCycles : Obligations.IdleTickOnlyAddsFourCycles := by
  intro s hidle
  have hrun : s.run ≠ .running := by rcases hidle with h | h <;> simp [h]
  have hstep := step_idle hrun
  refine ⟨hstep, ?_⟩
  rw [transact_step_of_next hstep, idleTick_cycles, add_sub_cancel_left]
  rfl

end

section
/-! PROOFS. The 8-bit loads (R180 to R196). `follows_of` leaves of a rule its bytes and its next state; the bytes are
read off the encoder register by register, and the next state is the form's result, its updates in another order. -/

namespace Sys2Proof.Machine

/-- The end of an executor over an update that moves neither PC nor the counter. -/
theorem retire_eq_of_eq {s u : State} (len : Word) (n : Count) (hpc : u.pc = s.pc) (hcycles : u.cycles = s.cycles) :
    retire len n u = { u with pc := s.pc + len, cycles := s.cycles + n } := by
  rw [retire, hpc, hcycles]

variable (s : State)

/-- A register load ends with PC and the counter of the state before it, advanced. -/
theorem retire_setReg (len : Word) (n : Count) (r : Reg) (v : Byte) :
    retire len n (s.setReg r v) = { s.setReg r v with pc := s.pc + len, cycles := s.cycles + n } :=
  retire_eq_of_eq _ _ (setReg_pc ..) (setReg_cycles ..)

/-- A register write does not touch the bus, so the two commute. -/
theorem setReg_withBus (bus : Bus) (r : Reg) (v : Byte) :
    ({ s with bus := bus } : State).setReg r v = { s.setReg r v with bus := bus } := by
  cases r <;> rfl

/-- Adding 0xFFFF is the step down modulo 2^16. -/
theorem word_add_FFFF (w : Word) : w + 0xFFFF = w - 1 := by
  rw [BitVec.sub_eq_add_neg]
  rfl

/-- The high page is the page 0xFF (R103): its address has the offset as low byte. -/
theorem highPage_eq (n : Byte) : highPage n = pairOf 0xFF n := by
  apply BitVec.eq_of_toNat_eq
  rw [pairOf_toNat, highPage, zext16, BitVec.toNat_add, BitVec.toNat_setWidth]
  change (65280 + n.toNat % 65536) % 65536 = 255 * 256 + n.toNat
  omega

end Sys2Proof.Machine

open Sys2Proof Sys2Proof.Machine

/-- Settles O25: the result is a register write, retired. -/
theorem loadRegisterFromRegister : Obligations.LoadRegisterFromRegister := by
  refine fun rd rs => follows_of ?_ fun s => retire_setReg s ..
  cases rd <;> cases rs <;> rfl

/-- Settles O26: the read at the old HL leaves the registers, so its bus can be written after the register. -/
theorem loadRegisterFromMemoryAtHL : Obligations.LoadRegisterFromMemoryAtHL := by
  refine fun rd => follows_of ?_ fun s => ?_
  · cases rd <;> rfl
  · rw [Form.result, retire_setReg, setReg_withBus]

/-- Settles O27: the result is a write of the register at HL, retired. -/
theorem storeRegisterToMemoryAtHL : Obligations.StoreRegisterToMemoryAtHL := by
  refine fun rs => follows_of ?_ fun s => rfl
  cases rs <;> rfl

/-- Settles O28: the immediate is written to the register, or at HL. -/
theorem loadImmediateByte : Obligations.LoadImmediateByte := by
  refine ⟨fun rd n => follows_of ?_ fun s => retire_setReg s .., fun n => follows_of rfl fun s => rfl⟩
  cases rd <;> rfl

/-- Settles O29: the access is at the pair's value, which nothing writes. -/
theorem loadAndStoreAThroughPair : Obligations.LoadAndStoreAThroughPair := by
  refine ⟨fun p => follows_of ?_ fun s => rfl, fun p => follows_of ?_ fun s => rfl, fun s => ⟨rfl, rfl⟩⟩
  · cases p <;> rfl
  · cases p <;> rfl

/-- Settles O30: the access is at the old HL, and the model steps down by adding 0xFFFF (`word_add_FFFF`). -/
theorem loadAndStoreAWithSteppedHL : Obligations.LoadAndStoreAWithSteppedHL := by
  refine ⟨follows_of rfl fun s => rfl, follows_of rfl fun s => ?_, follows_of rfl fun s => rfl,
    follows_of rfl fun s => ?_⟩
  · rw [Form.result, word_add_FFFF]
    rfl
  · rw [Form.result, word_add_FFFF]
    rfl

/-- Settles O31: an access at the operand, or in the page 0xFF (`highPage_eq`). -/
theorem loadAndStoreAAbsoluteAndHighPage : Obligations.LoadAndStoreAAbsoluteAndHighPage := by
  refine ⟨fun a => follows_of rfl fun s => rfl, fun a => follows_of rfl fun s => rfl,
    fun n => follows_of rfl fun s => ?_, fun n => follows_of rfl fun s => ?_, follows_of rfl fun s => ?_,
    follows_of rfl fun s => ?_⟩
  all_goals
    rw [← highPage_eq]
    rfl

end

section
/-! PROOFS. The 16-bit loads and the stack (R210 to R216, R283). Of most rules `follows_of` leaves updates in another
order; the two ideas are that a displacement is added as integers (`addSpDisp_eq`), and that POP is one rule for the
four pairs (`pop_follows`), of which POP AF is an instance. -/

namespace Sys2Proof.Machine

variable (s : State)

/-- A pair load ends with PC and the counter of the state before it, advanced. -/
theorem retire_setPair (len : Word) (n : Count) (p : Pair) (v : Word) :
    retire len n (s.setPair p v) = { s.setPair p v with pc := s.pc + len, cycles := s.cycles + n } :=
  retire_eq_of_eq _ _ (setPair_pc ..) (setPair_cycles ..)

/-- SP plus a displacement in integer arithmetic: a signed sum, with the flags of the unsigned addition of the raw byte
to the low byte of SP (R213, R283). -/
theorem addSpDisp_eq (sp : Word) (e : Byte) : addSpDisp sp e =
    (BitVec.ofInt 16 (sp.toNat + e.toInt),
      { z := false, n := false, h := decide (sp.toNat % 16 + e.toNat % 16 > 0x0F),
        c := decide (sp.toNat % 256 + e.toNat > 0xFF) }) := by
  rw [addSpDisp, ofInt_add_disp, and_000F_toNat, and_0F_toNat, and_00FF_toNat]

/-- The word popped is written to the pair; SP, PC, the counter and the bus advance beside it. -/
theorem result_pop (p : StackPair) : (Form.pop p).result s =
    { s.setStackPair p (s.bus.peekWord s.sp) with
      sp := s.sp + 2, pc := s.pc + 1, cycles := s.cycles + 12, bus := s.bus.afterReadWord s.sp } := by
  cases p <;> rfl

/-- A whole write of AF takes A from the word's high byte and F from its low byte, masked (R35, R37). -/
theorem setStackPair_af_pairOf (hi lo : Byte) :
    s.setStackPair .af (pairOf hi lo) = { s with a := hi, f := lo &&& 0xF0 } := by
  rw [State.setStackPair, hiByte_pairOf, loByte_pairOf]

/-- R215 for the four pairs, AF with the mask that its write applies. -/
theorem pop_follows (p : StackPair) : (Form.pop p).Follows [0xC1 + 16 * p.code] fun s =>
    { s.setStackPair p (s.bus.peekWord s.sp) with
      sp := s.sp + 2, pc := s.pc + 1, cycles := s.cycles + 12, bus := s.bus.afterReadWord s.sp } := by
  refine follows_of ?_ fun s => result_pop s p
  cases p <;> rfl

end Sys2Proof.Machine

open Sys2Proof Sys2Proof.Machine

/-- Settles O32: the immediate is written to the pair, or HL to SP, and the state retired. -/
theorem loadPairImmediateAndSpFromHL : Obligations.LoadPairImmediateAndSpFromHL := by
  refine ⟨fun p n => follows_of ?_ fun s => retire_setPair s .., follows_of rfl fun s => rfl⟩
  cases p <;> rfl

/-- Settles O33: the word write is the two byte writes, low byte first. -/
theorem storeSpToAbsoluteAddress : Obligations.StoreSpToAbsoluteAddress :=
  fun _ => follows_of rfl fun _ => rfl

/-- Settles O34: both results are `addSpDisp`, in integer arithmetic (`addSpDisp_eq`). -/
theorem addDisplacementToSp : Obligations.AddDisplacementToSp := by
  refine ⟨fun e => follows_of rfl fun s => ?_, fun e => follows_of rfl fun s => ?_⟩
  · rw [Form.result, addSpDisp_eq]
    rfl
  · rw [Form.result, addSpDisp_eq]
    rfl

/-- Settles O35: the word write is the two byte writes at and above the new SP. -/
theorem pushPair : Obligations.PushPair := by
  refine fun p => follows_of ?_ fun s => rfl
  cases p <;> rfl

/-- Settles O36: `pop_follows`, where for AF the word's halves are the two bytes read (`setStackPair_af_pairOf`). -/
theorem popPair : Obligations.PopPair := by
  refine ⟨fun p _ => pop_follows p, follows_of rfl fun s => ?_⟩
  rw [result_pop, Bus.peekWord, setStackPair_af_pairOf]
  rfl

end

section
/-! PROOFS. The 8-bit arithmetic and logic (R240 to R250) and the complement and carry operations (R252 to R254). An ALU
instruction is its operation's result written to A and the flags, whatever its source (`aluSource_follows`); what is
left of each rule is its operation in integer arithmetic. -/

namespace Sys2Proof.Machine

variable (s : State)

/-! ## The ALU instructions over their sources -/

/-- The encoding of an ALU instruction, from its operation and its source (R240). -/
theorem encode_aluSource (x : AluSource) (op : AluOp) : encode (x.form op).instr = x.bytes op := by
  cases x with
  | imm n => cases op <;> rfl
  | r8 x =>
    cases x with
    | reg r => cases op <;> cases r <;> rfl
    | atHL => cases op <;> rfl

/-- A and the flags take the result of the operation, and the rest is the end of the instruction (R240). -/
theorem result_aluSource (x : AluSource) (op : AluOp) : (x.form op).result s =
    { x.ended s with
      a := (aluResult op s.a (x.value s) (testFlag .carry s.f)).1
      f := writeFlags (aluResult op s.a (x.value s) (testFlag .carry s.f)).2 s.f } := by
  cases x with
  | imm n => rfl
  | r8 x => cases x <;> rfl

/-- An ALU instruction follows the rule that writes what its operation answers. -/
theorem aluSource_follows (x : AluSource) (op : AluOp) {out : State → Byte × Flags}
    (h : ∀ s, aluResult op s.a (x.value s) (testFlag .carry s.f) = out s) :
    (x.form op).Follows (x.bytes op) fun s =>
      { x.ended s with a := (out s).1, f := writeFlags (out s).2 s.f } :=
  follows_of (encode_aluSource x op) fun s => by rw [result_aluSource, h]

@[simp] theorem aluSource_ended_a (x : AluSource) : (x.ended s).a = s.a := by
  cases x with
  | imm n => rfl
  | r8 x => cases x <;> rfl

/-! ## The operations in integer arithmetic -/

/-- The sum and its flags (R241, R242). -/
theorem add8_eq (a v : Byte) (cin : Bool) : add8 a v cin =
    (BitVec.ofNat 8 (a.toNat + v.toNat + cin.toNat),
      { z := decide ((a.toNat + v.toNat + cin.toNat) % 256 = 0), n := false,
        h := decide (a.toNat % 16 + v.toNat % 16 + cin.toNat > 0x0F),
        c := decide (a.toNat + v.toNat + cin.toNat > 0xFF) }) := by
  rw [add8, ofNat_beq_zero]

/-- The difference and its flags (R244). -/
theorem sub8_eq (a v : Byte) (cin : Bool) : sub8 a v cin =
    (BitVec.ofInt 8 (a.toNat - v.toNat - cin.toNat),
      { z := decide (((a.toNat : Int) - v.toNat - cin.toNat) % 256 = 0), n := true,
        h := decide ((a.toNat % 16 : Int) - (v.toNat % 16 : Int) - (cin.toNat : Int) < 0),
        c := decide ((a.toNat : Int) - v.toNat - cin.toNat < 0) }) := by
  rw [sub8, ofInt_beq_zero]

/-- Without a carry in, the borrows are comparisons of the operands (R243, R248). -/
theorem sub8_false (a v : Byte) : sub8 a v false =
    (BitVec.ofInt 8 (a.toNat - v.toNat),
      { z := decide (((a.toNat : Int) - v.toNat) % 256 = 0), n := true,
        h := decide (a.toNat % 16 < v.toNat % 16), c := decide (a.toNat < v.toNat) }) := by
  have hh : (a.toNat % 16 : Int) - (v.toNat % 16 : Int) < 0 ↔ a.toNat % 16 < v.toNat % 16 := by omega
  have hc : (a.toNat : Int) - v.toNat < 0 ↔ a.toNat < v.toNat := by omega
  simp only [sub8_eq, Bool.toNat_false, Nat.cast_zero, sub_zero, hh, hc]

/-- The test of a low nibble. -/
theorem and_0F_beq (v n : Byte) : (v &&& 0x0F == n) = decide (v.toNat % 16 = n.toNat) := by
  rw [Bool.eq_iff_iff, beq_iff_eq, decide_eq_true_iff, ← BitVec.toNat_inj, and_0F_toNat]

/-- The increment and its flags (R249). -/
theorem inc8_eq (v : Byte) (old : Flags) : inc8 v old =
    (v + 1, { z := decide (v.toNat = 255), n := false, h := decide (v.toNat % 16 = 15), c := old.c }) := by
  have hz : (v + 1 == 0) = decide (v.toNat = 255) := by
    rw [Bool.eq_iff_iff, beq_iff_eq, decide_eq_true_iff]
    bv_omega
  rw [inc8, hz, and_0F_beq]
  rfl

/-- The decrement and its flags (R250). -/
theorem dec8_eq (v : Byte) (old : Flags) : dec8 v old =
    (v - 1, { z := decide (v.toNat = 1), n := true, h := decide (v.toNat % 16 = 0), c := old.c }) := by
  have hz : (v - 1 == 0) = decide (v.toNat = 1) := by
    rw [Bool.eq_iff_iff, beq_iff_eq, decide_eq_true_iff]
    bv_omega
  rw [dec8, hz, and_0F_beq]
  rfl

/-- The complement of a byte (R252). -/
theorem not_eq_ofNat (v : Byte) : ~~~v = BitVec.ofNat 8 (255 - v.toNat) := by
  apply BitVec.eq_of_toNat_eq
  rw [BitVec.toNat_not, BitVec.toNat_ofNat]
  omega

/-- The end of an executor that updated an `r8` operand and wrote the flags. -/
theorem retire_update_setFlags (x : R8) (v : Byte) (fl : Flags) (len : Word) (n : Count) :
    retire len n ((x.update v s).setFlags fl) =
      { x.update v s with f := writeFlags fl s.f, pc := s.pc + len, cycles := s.cycles + n } := by
  rw [State.setFlags, update_f]
  exact retire_eq_of_eq _ _ (update_pc ..) (update_cycles ..)

end Sys2Proof.Machine

open Sys2Proof Sys2Proof.Machine

/-- Settles O37: ADD is the sum without a carry in. -/
theorem addToA : Obligations.AddToA :=
  fun x => aluSource_follows x .add fun _ => add8_eq _ _ false

/-- Settles O38: ADC is the sum with C as carry in. -/
theorem addToAWithCarry : Obligations.AddToAWithCarry :=
  fun x => aluSource_follows x .adc fun _ => add8_eq ..

/-- Settles O39: SUB is the difference without a carry in, and CP writes back the old A. -/
theorem subtractFromAAndCompare : Obligations.SubtractFromAAndCompare := by
  refine fun x => ⟨aluSource_follows x .sub fun _ => sub8_false .., ?_⟩
  refine follows_of (encode_aluSource x .cp) fun s => ?_
  rw [result_aluSource, aluResult, sub8_false, ← aluSource_ended_a s x]

/-- Settles O40: SBC is the difference with C as carry in. -/
theorem subtractFromAWithCarry : Obligations.SubtractFromAWithCarry :=
  fun x => aluSource_follows x .sbc fun _ => sub8_eq ..

/-- Settles O41: the model's operations are the rules word for word. -/
theorem logicalOperationsOnA : Obligations.LogicalOperationsOnA :=
  fun x => ⟨aluSource_follows x .and fun _ => rfl, aluSource_follows x .xor fun _ => rfl,
    aluSource_follows x .or fun _ => rfl⟩

/-- Settles O42: the result is an update of the operand with its flags (`inc8_eq`, `dec8_eq`), retired. -/
theorem incrementAndDecrementByte : Obligations.IncrementAndDecrementByte := by
  refine fun x => ⟨follows_of ?_ fun s => ?_, follows_of ?_ fun s => ?_⟩
  · rcases x with ⟨⟨⟩⟩ | _ <;> rfl
  · rw [Form.result, inc8_eq, retire_update_setFlags]
    rfl
  · rcases x with ⟨⟨⟩⟩ | _ <;> rfl
  · rw [Form.result, dec8_eq, retire_update_setFlags]
    rfl

/-- Settles O45: CPL is the complement to 255 (`not_eq_ofNat`), and the flags are the rules word for word. -/
theorem complementAndCarryOperations : Obligations.ComplementAndCarryOperations := by
  refine ⟨follows_of rfl fun s => ?_, follows_of rfl fun s => rfl, follows_of rfl fun s => rfl⟩
  rw [Form.result, not_eq_ofNat]
  rfl

end

section
/-! PROOFS. DAA (R251): its algorithm in integer arithmetic, narrowed once at the end (`daaAdjust_eq`), and what it
makes of the sum and of the difference of two packed decimal bytes (`daaAdjust_add8`, `daaAdjust_sub8`). -/

namespace Sys2Proof.Machine

/-! ## The algorithm in integer arithmetic -/

/-- The C that DAA leaves (R251). -/
def daaCarry (a : Byte) (old : Flags) : Bool := if old.n then old.c else old.c || decide (a.toNat > 0x99)

/-- A after the correction of its high digit by 0x60, not narrowed (R251). -/
def daaHigh (a : Byte) (old : Flags) : Int :=
  if old.n then (if old.c then a.toNat - 0x60 else a.toNat)
  else (if daaCarry a old then a.toNat + 0x60 else a.toNat)

/-- A after both corrections, not narrowed (R251). -/
def daaSum (a : Byte) (old : Flags) : Int :=
  if old.n then (if old.h then daaHigh a old - 0x06 else daaHigh a old)
  else (if old.h || decide (a.toNat % 16 > 0x09) then daaHigh a old + 0x06 else daaHigh a old)

theorem ofInt_toNat (v : Byte) : BitVec.ofInt 8 v.toNat = v := by
  rw [BitVec.ofInt_natCast, BitVec.ofNat_toNat, BitVec.setWidth_eq]

/-- Narrowing commutes with subtraction, as with addition (`BitVec.ofInt_add`). -/
theorem ofInt_sub (x y : Int) : BitVec.ofInt 8 (x - y) = BitVec.ofInt 8 x - BitVec.ofInt 8 y := by
  rw [eq_sub_iff_add_eq, ← BitVec.ofInt_add, sub_add_cancel]

/-- Integers that agree modulo 256 narrow to one byte. -/
theorem ofInt_eq_of_emod_eq {x y : Int} (h : x % 256 = y % 256) : BitVec.ofInt 8 x = BitVec.ofInt 8 y := by
  apply BitVec.eq_of_toNat_eq
  rw [BitVec.toNat_ofInt, BitVec.toNat_ofInt]
  exact congrArg Int.toNat h

/-- "The adding of 0x60 does not change the low nibble, so the second test sees the original low nibble" (R251). -/
theorem lowNibble_ite_add_60 (a : Byte) (p : Prop) [Decidable p] :
    ((if p then a + 0x60 else a) &&& 0x0F).toNat = a.toNat % 16 := by
  rw [and_0F_toNat]
  split
  · rw [BitVec.toNat_add, Nat.mod_mod_of_dvd _ (by decide)]
    exact Nat.add_mul_mod_self_left _ 16 6
  · rfl

/-- DAA in integer arithmetic (R251). -/
theorem daaAdjust_eq (a : Byte) (old : Flags) :
    daaAdjust a old = (BitVec.ofInt 8 (daaSum a old), daaCarry a old) := by
  cases hn : old.n with
  | true =>
    simp only [daaAdjust, daaSum, daaHigh, daaCarry, hn, if_true, apply_ite (BitVec.ofInt 8), ofInt_sub, ofInt_toNat]
    rfl
  | false =>
    simp only [daaAdjust, daaSum, daaHigh, daaCarry, hn, Bool.false_eq_true, if_false, lowNibble_ite_add_60,
      apply_ite (BitVec.ofInt 8), BitVec.ofInt_add, ofInt_toNat]
    rfl

/-! ## After an addition or a subtraction of packed decimal bytes -/

/-- An ALU instruction with an immediate and then DAA: DAA corrects what the operation answered, by its flags. -/
theorem aluImm_then_daa (op : AluOp) (n : Byte) (s : State) :
    let r := aluResult op s.a n (testFlag .carry s.f)
    ∃ t u, exec (Form.aluImm op n).instr s = .next t ∧ exec .daa t = .next u ∧
      u.a = (daaAdjust r.1 r.2).1 ∧ testFlag .carry u.f = (daaAdjust r.1 r.2).2 := by
  have hflags : ((Form.aluImm op n).result s).flags = (aluResult op s.a n (testFlag .carry s.f)).2 :=
    readFlags_writeFlags ..
  refine ⟨(Form.aluImm op n).result s, Form.daa.result _, exec_eq _ s, exec_eq .daa _, ?_⟩
  rw [← hflags]
  exact ⟨rfl, testFlag_writeFlags .carry ..⟩

theorem packed_toNat {d1 d0 : Nat} (h1 : d1 < 10) (h0 : d0 < 10) :
    (BitVec.ofNat 8 (16 * d1 + d0)).toNat = 16 * d1 + d0 := by
  rw [BitVec.toNat_ofNat]
  omega

section
variable {a1 a0 b1 b0 : Nat} (ha1 : a1 < 10) (ha0 : a0 < 10) (hb1 : b1 < 10) (hb0 : b0 < 10) (cin : Bool)
include ha1 ha0 hb1 hb0

/-- DAA corrects the high digit of a sum just where the decimal sum has a carry, and the low digit just where the low
decimal digits have one. -/
theorem daaAdjust_add8 :
    let r := add8 (BitVec.ofNat 8 (16 * a1 + a0)) (BitVec.ofNat 8 (16 * b1 + b0)) cin
    let sum := 10 * a1 + a0 + (10 * b1 + b0) + cin.toNat
    daaAdjust r.1 r.2 = (BitVec.ofNat 8 (16 * (sum / 10 % 10) + sum % 10), decide (sum > 99)) := by
  have hcin := cin.toNat_le
  have hhigh : (16 * a1 + a0 + (16 * b1 + b0) + cin.toNat > 0xFF ∨
      (16 * a1 + a0 + (16 * b1 + b0) + cin.toNat) % 256 > 0x99) ↔
      10 * a1 + a0 + (10 * b1 + b0) + cin.toNat > 99 := by omega
  have hlow : ((16 * a1 + a0) % 16 + (16 * b1 + b0) % 16 + cin.toNat > 0x0F ∨
      (16 * a1 + a0 + (16 * b1 + b0) + cin.toNat) % 256 % 16 > 0x09) ↔
      a0 + b0 + cin.toNat > 9 := by omega
  intro r sum
  simp only [r, sum, daaAdjust_eq, add8_eq, packed_toNat ha1 ha0, packed_toNat hb1 hb0, daaSum, daaHigh, daaCarry,
    BitVec.toNat_ofNat, Nat.reducePow, Bool.false_eq_true, if_false, ← Bool.decide_or, decide_eq_true_eq, hhigh, hlow]
  rw [← BitVec.ofInt_natCast]
  congr 1
  apply ofInt_eq_of_emod_eq
  split <;> split <;> omega

/-- DAA corrects the high digit of a difference just where the decimal difference has a borrow, and the low digit just
where the low decimal digits have one. -/
theorem daaAdjust_sub8 :
    let r := sub8 (BitVec.ofNat 8 (16 * a1 + a0)) (BitVec.ofNat 8 (16 * b1 + b0)) cin
    let difference : Int := (10 * a1 + a0 : Int) - (10 * b1 + b0) - cin.toNat
    daaAdjust r.1 r.2 =
      (BitVec.ofInt 8 (16 * (difference / 10 % 10) + difference % 10), decide (difference < 0)) := by
  have hcin := cin.toNat_le
  have hhigh : ((16 * a1 + a0 : Nat) : Int) - (16 * b1 + b0 : Nat) - cin.toNat < 0 ↔
      (10 * a1 + a0 : Int) - (10 * b1 + b0) - cin.toNat < 0 := by omega
  have hlow : ((16 * a1 + a0 : Nat) : Int) % 16 - (16 * b1 + b0 : Nat) % 16 - cin.toNat < 0 ↔
      (a0 : Int) - b0 - cin.toNat < 0 := by omega
  intro r difference
  simp only [r, difference, daaAdjust_eq, sub8_eq, packed_toNat ha1 ha0, packed_toNat hb1 hb0, daaSum, daaHigh,
    daaCarry, BitVec.toNat_ofInt, Nat.reducePow, if_true, decide_eq_true_eq, hhigh, hlow]
  congr 1
  apply ofInt_eq_of_emod_eq
  split <;> split <;> omega

end

end Sys2Proof.Machine

open Sys2Proof Sys2Proof.Machine

/-- Settles O43: the result is `daaAdjust`, in integer arithmetic (`daaAdjust_eq`). -/
theorem decimalAdjust : Obligations.DecimalAdjust := by
  refine follows_of rfl fun s => ?_
  rw [Form.result, daa8, daaAdjust_eq, ofInt_beq_zero]
  rfl

/-- Settles O44: DAA corrects what ADC or SBC answered (`aluImm_then_daa`), which for packed decimal bytes is
`daaAdjust_add8` or `daaAdjust_sub8`. -/
theorem decimalAdjustCorrectsAdditionAndSubtraction : Obligations.DecimalAdjustCorrectsAdditionAndSubtraction := by
  intro s a1 a0 b1 b0 ha1 ha0 hb1 hb0 ha cy sum difference
  constructor
  · obtain ⟨t, u, ht, hu, hr⟩ := aluImm_then_daa .adc (BitVec.ofNat 8 (16 * b1 + b0)) s
    rw [aluResult, ha, daaAdjust_add8 ha1 ha0 hb1 hb0] at hr
    exact ⟨t, u, ht, hu, hr⟩
  · obtain ⟨t, u, ht, hu, hr⟩ := aluImm_then_daa .sbc (BitVec.ofNat 8 (16 * b1 + b0)) s
    rw [aluResult, ha, daaAdjust_sub8 ha1 ha0 hb1 hb0] at hr
    exact ⟨t, u, ht, hu, hr⟩

end

section
/-! PROOFS. The 16-bit arithmetic on the pairs (R280 to R282). -/

namespace Sys2Proof.Machine

/-- The sum and its flags in integer arithmetic (R280). -/
theorem addHl16_eq (hl v : Word) (old : Flags) : addHl16 hl v old =
    (BitVec.ofNat 16 (hl.toNat + v.toNat),
      { z := old.z, n := false, h := decide (hl.toNat % 4096 + v.toNat % 4096 > 0x0FFF),
        c := decide (hl.toNat + v.toNat > 0xFFFF) }) := by
  rw [addHl16, and_0FFF_toNat, and_0FFF_toNat]

end Sys2Proof.Machine

open Sys2Proof Sys2Proof.Machine

/-- Settles O46: the sum is that of the integers, with its carries out of bits 11 and 15 (`addHl16_eq`). -/
theorem addPairToHL : Obligations.AddPairToHL := by
  refine fun p => follows_of ?_ fun s => ?_
  · cases p <;> rfl
  · rw [Form.result, addHl16_eq]
    rfl

/-- Settles O47: the pair is written and the state retired, and no flag is touched (`retire_setPair`). -/
theorem incrementAndDecrementPair : Obligations.IncrementAndDecrementPair := by
  refine fun p => ⟨follows_of ?_ fun s => retire_setPair s .., follows_of ?_ fun s => retire_setPair s ..⟩
  · cases p <;> rfl
  · cases p <;> rfl

end

section
/-! PROOFS. The rotates, shifts and SWAP (R300 to R312): what an operation answers is its rule in integer arithmetic
(`rotResult_eq`), and a rule's value is a byte, so Z is its test for zero (`rotRule_fst_lt`). -/

namespace Sys2Proof.Machine

/-- The bit that a left rotate or shift moves out. -/
theorem getLsbD_seven_eq (v : Byte) : v.getLsbD 7 = decide (v.toNat / 128 = 1) := by
  have hv : v.toNat / 2 ^ 7 < 2 := by omega
  rw [BitVec.getLsbD, Nat.testBit_eq_decide_div_mod_eq, Nat.mod_eq_of_lt hv]
  rfl

/-- The bit that a right rotate or shift moves out. -/
theorem getLsbD_zero_eq (v : Byte) : v.getLsbD 0 = decide (v.toNat % 2 = 1) :=
  Nat.testBit_zero v.toNat

/-- The bit shifted out is the one of the rule. -/
theorem rotResult_snd (op : RotOp) (v : Byte) (c : Bool) :
    (rotResult op v c).2 = decide ((op.rule v.toNat c.toNat).2 = 1) := by
  cases op with
  | rlc | rl | sla => exact getLsbD_seven_eq v
  | rrc | rr | sra | srl => exact getLsbD_zero_eq v
  | swap => rfl

/-- A rotate, shift or SWAP in integer arithmetic: the value and the bit shifted out (R300 to R312). -/
theorem rotResult_eq (op : RotOp) (v : Byte) (c : Bool) : rotResult op v c =
    (BitVec.ofNat 8 (op.rule v.toNat c.toNat).1, decide ((op.rule v.toNat c.toNat).2 = 1)) :=
  Prod.ext (rotResult_fst op c v) (rotResult_snd op v c)

/-- The value of a rule needs no narrowing. -/
theorem rotRule_fst_lt (op : RotOp) (v : Byte) (c : Bool) : (op.rule v.toNat c.toNat).1 < 256 := by
  have hv := v.isLt
  have hc := c.toNat_le
  cases op <;> simp only [RotOp.rule] <;> omega

/-- The flags of a CB rotate, shift or SWAP: Z is the test for zero of the rule's value (R304). -/
theorem rotCbFlags_eq (op : RotOp) (v : Byte) (c : Bool) : rotCbFlags (rotResult op v c) =
    { z := decide ((op.rule v.toNat c.toNat).1 = 0), n := false, h := false,
      c := decide ((op.rule v.toNat c.toNat).2 = 1) } := by
  rw [rotCbFlags, rotResult_eq, ofNat_beq_zero, Nat.mod_eq_of_lt (rotRule_fst_lt op v c)]

/-- A form of one byte that rotates A follows the rule of its operation, with Z = 0 (R300 to R303). -/
theorem accumulatorRotate_follows {o : Form} {op : RotOp} {b : Byte} (hb : encode o.instr = [b])
    (ho : ∀ s, o.result s = retire 1 4 ({ s with a := (rotResult op s.a s.flags.c).1 }.setFlags
      (rotAccFlags (rotResult op s.a s.flags.c)))) :
    o.Follows [b] fun s =>
      { s with
        a := BitVec.ofNat 8 (op.rule s.a.toNat (testFlag .carry s.f).toNat).1
        f := writeFlags { z := false, n := false, h := false,
                          c := decide ((op.rule s.a.toNat (testFlag .carry s.f).toNat).2 = 1) } s.f
        pc := s.pc + 1, cycles := s.cycles + 4 } := by
  refine follows_of hb fun s => ?_
  rw [ho, rotResult_eq]
  rfl

/-- The encoding of a CB rotate, shift or SWAP, from its operation and its operand (R304). -/
theorem encode_rot (op : RotOp) (x : R8) : encode (Form.rot op x).instr = [0xCB, 8 * op.code + x.code] := by
  cases x with
  | reg r => cases op <;> cases r <;> rfl
  | atHL => cases op <;> rfl

end Sys2Proof.Machine

open Sys2Proof Sys2Proof.Machine

/-- Settles O48: each of the four rotates A by its operation (`accumulatorRotate_follows`). -/
theorem accumulatorRotates : Obligations.AccumulatorRotates := by
  intro x hx
  simp only [List.mem_cons, List.not_mem_nil, or_false] at hx
  obtain rfl | rfl | rfl | rfl := hx <;> exact accumulatorRotate_follows rfl fun _ => rfl

/-- Settles O49: the result is an update of the operand with its flags (`rotResult_fst`, `rotCbFlags_eq`), retired. -/
theorem rotatesAndShifts : Obligations.RotatesAndShifts := by
  refine fun op x => follows_of (encode_rot op x) fun s => ?_
  rw [Form.result, rotCbFlags_eq, rotResult_fst, retire_update_setFlags]
  rfl

end

section
/-! PROOFS. The single-bit test, reset and set (R330 to R332). The model shifts by the bit's index (`octNat_eq_code`); Z
of BIT is the complement of the tested bit in integer arithmetic (`not_getLsbD_eq`). -/

namespace Sys2Proof.Machine

/-- The complement of a bit says that its digit in base 2 is 0. -/
theorem not_getLsbD_eq (v : Byte) (i : Nat) : (!v.getLsbD i) = decide (v.toNat / 2 ^ i % 2 = 0) := by
  rw [BitVec.getLsbD, Nat.testBit_eq_decide_div_mod_eq, ← decide_not]
  exact decide_eq_decide.2 Nat.mod_two_ne_one

/-- The flags of BIT in integer arithmetic (R330). -/
theorem bitFlags_eq (n : Oct) (v : Byte) (old : Flags) : bitFlags n v old =
    { z := decide (v.toNat / 2 ^ n.code.toNat % 2 = 0), n := false, h := true, c := old.c } := by
  rw [bitFlags, not_getLsbD_eq, octNat_eq_code]

/-- The end of an executor that only updated an `r8` operand. -/
theorem retire_update (x : R8) (v : Byte) (len : Word) (n : Count) (s : State) :
    retire len n (x.update v s) = { x.update v s with pc := s.pc + len, cycles := s.cycles + n } :=
  retire_eq_of_eq _ _ (update_pc ..) (update_cycles ..)

/-- The three bit quarters of the CB table: an encoding, from its bit and its operand (R113). -/
theorem encode_bitQuarters (n : Oct) (x : R8) :
    encode (Form.bit n x).instr = [0xCB, 0x40 + 8 * n.code + x.code] ∧
    encode (Form.res n x).instr = [0xCB, 0x80 + 8 * n.code + x.code] ∧
    encode (Form.set n x).instr = [0xCB, 0xC0 + 8 * n.code + x.code] := by
  cases x with
  | reg r => cases n <;> cases r <;> exact ⟨rfl, rfl, rfl⟩
  | atHL => cases n <;> exact ⟨rfl, rfl, rfl⟩

end Sys2Proof.Machine

open Sys2Proof Sys2Proof.Machine

/-- Settles O50: the operand is read and only the flags are written (`bitFlags_eq`). -/
theorem testBit : Obligations.TestBit := by
  intro n x
  obtain ⟨hbit, -, -⟩ := encode_bitQuarters n x
  refine follows_of hbit fun s => ?_
  rw [Form.result, bitFlags_eq]
  rfl

/-- Settles O51: the result is an update of the operand, retired (`retire_update`); that update writes (HL) whatever
byte was read there. -/
theorem resetAndSetBit : Obligations.ResetAndSetBit := by
  intro n x
  obtain ⟨-, hres, hset⟩ := encode_bitQuarters n x
  refine ⟨follows_of hres fun s => ?_, follows_of hset fun s => ?_⟩
  · rw [Form.result, retire_update, resBit, octNat_eq_code]
  · rw [Form.result, retire_update, setBit, octNat_eq_code]

end

section
/-! PROOFS. The control transfers (R350 to R361). A conditional transfer decides by its condition's row of the table
(`condHolds_flags`), and a relative jump adds its displacement as integers (`jrTarget_eq`). -/

namespace Sys2Proof.Machine

/-- A condition is tested on the flags as its row of the table says (R109, R350). -/
theorem condHolds_flags (cc : Cond) (s : State) : condHolds cc s.flags = cc.holds s := by
  cases cc with
  | nz => exact (beq_false (testFlag .zero s.f)).symm
  | z => exact (beq_true (testFlag .zero s.f)).symm
  | nc => exact (beq_false (testFlag .carry s.f)).symm
  | c => exact (beq_true (testFlag .carry s.f)).symm

/-- The target of a relative jump in integer arithmetic: the address after the jump, displaced (R354). -/
theorem jrTarget_eq (pc : Word) (e : Byte) : jrTarget pc e = BitVec.ofInt 16 (pc.toNat + 2 + e.toInt) :=
  calc pc + 2 + sext16 e
    _ = pc + sext16 e + 2 := add_right_comm ..
    _ = BitVec.ofInt 16 (pc.toNat + e.toInt) + 2 := by rw [ofInt_add_disp]
    _ = BitVec.ofInt 16 (pc.toNat + e.toInt + 2) := (BitVec.ofInt_add _ 2).symm
    _ = BitVec.ofInt 16 (pc.toNat + 2 + e.toInt) := by rw [add_right_comm]

/-- The vector of RST is eight times the field (R358). -/
theorem rstTarget_eq (t : Oct) : rstTarget t = BitVec.ofNat 16 (8 * t.code.toNat) := by
  rw [rstTarget, octNat_eq_code, Nat.mul_comm]

end Sys2Proof.Machine

open Sys2Proof Sys2Proof.Machine

/-- Settles O52: a jump writes PC and the counter, the conditional one as its condition says (`condHolds_flags`). -/
theorem absoluteJumps : Obligations.AbsoluteJumps := by
  refine ⟨fun a => follows_of rfl fun s => rfl, fun cc a => follows_of ?_ fun s => ?_, follows_of rfl fun s => rfl⟩
  · cases cc <;> rfl
  · rw [Form.result, condHolds_flags]
    rfl

/-- Settles O53: both jumps go to `jrTarget`, in integer arithmetic (`jrTarget_eq`). -/
theorem relativeJumps : Obligations.RelativeJumps := by
  refine ⟨fun e => follows_of rfl fun s => ?_, fun cc e => follows_of ?_ fun s => ?_⟩
  · rw [Form.result, jrTarget_eq]
    rfl
  · cases cc <;> rfl
  · rw [Form.result, jrTarget_eq, condHolds_flags]
    rfl

/-- Settles O54: the word write of the return address is the two byte writes at and above the new SP; a call is taken as
its condition says (`condHolds_flags`), and RST goes to its vector (`rstTarget_eq`). -/
theorem callsAndRestarts : Obligations.CallsAndRestarts := by
  refine ⟨fun a => follows_of rfl fun s => rfl, fun cc a => follows_of ?_ fun s => ?_,
    fun t => follows_of ?_ fun s => ?_⟩
  · cases cc <;> rfl
  · rw [Form.result, condHolds_flags]
    rfl
  · cases t <;> rfl
  · rw [Form.result, rstTarget_eq]
    rfl

/-- Settles O55: PC is the word popped, by RET cc as its condition says (`condHolds_flags`), and RETI writes `ime`
and `imePending` beside it. -/
theorem returns : Obligations.Returns := by
  refine ⟨follows_of rfl fun s => rfl, fun cc => follows_of ?_ fun s => ?_, follows_of rfl fun s => rfl⟩
  · cases cc <;> rfl
  · rw [Form.result, condHolds_flags]
    rfl

end

section
/-! PROOFS. CPU control (R380 to R384). -/

open Sys2Proof Sys2Proof.Machine

/-- Settles O56: each result is an update of the control state, retired, with its fields in another order. -/
theorem cpuControlInstructions : Obligations.CpuControlInstructions :=
  ⟨follows_of rfl fun _ => rfl, follows_of rfl fun _ => rfl, fun _ => follows_of rfl fun _ => rfl,
    follows_of rfl fun _ => rfl, follows_of rfl fun _ => rfl⟩

end

section
/-! PROOFS. Where a step stops (R143, R400 to R404): a step whose bytes decode is one list of bus calls, those of its
fetch and then those of its executor (`step_eq_guarded`), and a step at an undefined opcode ends in its fetch
(`step_of_undefined`). -/

namespace Sys2Proof.Machine

variable {s : State}

/-! ## Every instruction and every step as a list of bus calls -/

/-- An instruction is the calls of its form. -/
theorem exec_eq_guarded (i : Instr) (s : State) :
    exec i s = guarded s.pc s.bus (i.form.calls s) (i.form.result s) := by
  rw [exec_eq_run, run_eq]

/-- A step whose bytes decode is the reads of its fetch and then the calls of its executor. -/
theorem step_eq_guarded {i : Instr} {rest : List Byte} (hr : s.run = .running)
    (hd : decode (s.bytesAtPc 3) = .instr i rest) :
    step s = guarded s.pc s.bus (s.fetchReads (3 - rest.length) ++ i.form.calls s)
      (promote s.imePending (i.form.result (s.afterFetch (3 - rest.length)))) := by
  rw [step_running hr, fetch_decode s hd]
  refine andThen_guarded _ _ _ ?_
  rw [exec_eq_guarded, afterFetch_pc, afterFetch_bus, afterFetch_calls]
  exact andThen_guarded_next _ _ _ rfl

/-! ## The undefined opcodes -/

/-- A step at an undefined opcode reads it, if the bus lets it, and raises InvalidOpcode. -/
theorem step_of_undefined {op : Byte} (hr : s.run = .running)
    (hd : decode (s.bytesAtPc 3) = .undefinedOpcode op) : step s =
      if s.bus.rejects .read s.pc then .fault (.busFault s.pc .read s.pc s.bus)
      else .fault (.invalidOpcode op s.pc) := by
  rw [step_running hr, (fetch_undefined s hd).2]
  split <;> rfl

/-- The bytes at PC are an undefined opcode where the first one is (R114). -/
theorem decode_bytesAtPc_of_undefined (h : s.bus.peek s.pc ∈ undefinedOpcodes) :
    decode (s.bytesAtPc 3) = .undefinedOpcode (s.bus.peek s.pc) := by
  rw [bytesAtPc_three, decode_eq_undefinedOpcode_iff]
  exact baseShape_eq_undefined_iff.2 h

/-- An accepted fetch of an undefined opcode raises InvalidOpcode with the byte and its address (R401). -/
theorem step_invalidOpcode (hr : s.run = .running) (hop : s.bus.peek s.pc ∈ undefinedOpcodes)
    (ha : s.bus.rejects .read s.pc = false) : step s = .fault (.invalidOpcode (s.bus.peek s.pc) s.pc) := by
  rw [step_of_undefined hr (decode_bytesAtPc_of_undefined hop), ha]
  rfl

/-- The transaction of a step that raises InvalidOpcode returns it, with the fetch on the bus (R148, R401). -/
theorem transact_step_of_invalidOpcode {op : Byte} {pc : Word} (h : step s = .fault (.invalidOpcode op pc)) :
    transact .step s = .next (.err (.invalidOpcode op pc), { s with bus := s.bus.afterRead s.pc }) := by
  rw [transact, h]

/-- The transaction of a step that raises BusFault raises it too (R148, R402). -/
theorem transact_step_of_busFault {a pc0 : Word} {k : Access} {b : Bus}
    (h : step s = .fault (.busFault a k pc0 b)) : transact .step s = .fault (.busFault a k pc0 b) := by
  rw [transact, h]

theorem running_of_step_fault {r : Fault} (h : step s = .fault r) : s.run = .running := by
  by_contra hr
  rw [step_idle hr] at h
  cases h

/-- InvalidOpcode is raised by an accepted fetch of an undefined opcode alone. -/
theorem step_invalidOpcode_inversion {op : Byte} {pc : Word} (h : step s = .fault (.invalidOpcode op pc)) :
    pc = s.pc ∧ op = s.bus.peek s.pc ∧ s.bus.rejects .read s.pc = false ∧
      s.bus.peek s.pc ∈ undefinedOpcodes := by
  have hop := baseShape_eq_undefined_iff.1 (step_invalidOpcode_shape h)
  rw [step_of_undefined (running_of_step_fault h) (decode_bytesAtPc_of_undefined hop)] at h
  split at h
  next => cases h
  next ha =>
    cases h
    exact ⟨rfl, rfl, Bool.eq_false_of_not_eq_true ha, hop⟩

/-! ## Rejected accesses -/

/-- A rejected opcode fetch is reported before anything is decoded. -/
theorem step_of_rejected_opcode (hr : s.run = .running) (hrej : s.bus.rejects .read s.pc = true) :
    step s = .fault (.busFault s.pc .read s.pc s.bus) := by
  have hpc : s.pc + BitVec.ofNat 16 0 = s.pc := BitVec.add_zero _
  have hf := fetch_rejected s (k := 0) (.inl rfl) rfl (by rwa [hpc])
  rw [step_running hr, hf, hpc]
  rfl

/-- No call is rejected unless `BUS_FAULT_ENABLED` (R72, R402). -/
theorem faultEnabled_of_rejectsCall {b : Bus} {e : BusEvent} (h : b.rejectsCall e = true) : b.faultEnabled = true := by
  rw [Bus.rejectsCall, Bus.rejects, Bool.and_eq_true] at h
  exact h.1

/-- An executor's fault is a BusFault at the first of its calls that the bus rejects. -/
theorem exec_fault_inversion {i : Instr} {r : Fault} (h : exec i s = .fault r) :
    ∃ before e after, i.form.calls s = before ++ e :: after ∧ s.bus.rejectsCall e = true ∧
      r = .busFault e.access.2 e.access.1 s.pc (s.bus.afterCalls before) := by
  rw [exec_eq_guarded] at h
  obtain ⟨before, e, after, hcalls, -, he, hfault⟩ := guarded_eq_fault _ _ _ h
  exact ⟨before, e, after, hcalls, he, hfault⟩

theorem exec_not_refused (i : Instr) (s : State) (r : Refusal) : exec i s ≠ .refused r := by
  rw [exec_eq_guarded]
  exact guarded_not_refused _ _ _

theorem step_not_refused (s : State) (r : Refusal) : step s ≠ .refused r := by
  by_cases hr : s.run = .running
  · rcases decode_bytesAtPc s with ⟨i, rest, hd⟩ | ⟨op, hd⟩
    · rw [step_eq_guarded hr hd]
      exact guarded_not_refused _ _ _
    · rw [step_of_undefined hr hd]
      split <;> nofun
  · rw [step_idle hr]
    nofun

/-- Without `BUS_FAULT_ENABLED` an executor reaches its result: it is not refused, and it cannot fault. -/
theorem exec_completes (i : Instr) (h : s.bus.faultEnabled = false) : ∃ t, exec i s = .next t := by
  cases hx : exec i s with
  | next t => exact ⟨t, rfl⟩
  | fault r =>
    obtain ⟨_, _, _, -, he, -⟩ := exec_fault_inversion hx
    rw [faultEnabled_of_rejectsCall he] at h
    cases h
  | refused r => exact absurd hx (exec_not_refused i s r)

end Sys2Proof.Machine

open Sys2Proof Sys2Proof.Machine

/-- Settles O7: `step_invalidOpcode` gives the error, and again in the state with the fetch on the bus, which reads the
same byte at PC; its converse is `step_invalidOpcode_inversion`. -/
theorem undefinedOpcodesRaiseInvalidOpcode : Obligations.UndefinedOpcodesRaiseInvalidOpcode := by
  refine ⟨fun s hr hop ha => ?_, fun s op pc h => ?_⟩
  · have hstep := step_invalidOpcode hr hop ha
    exact ⟨hstep, transact_step_of_invalidOpcode hstep,
      step_invalidOpcode (s := { s with bus := s.bus.afterRead s.pc }) hr hop ha⟩
  · obtain ⟨rfl, rfl, ha, hop⟩ := step_invalidOpcode_inversion h
    exact ⟨running_of_step_fault h, rfl, rfl, ha, hop⟩

/-- Settles O8: the calls of a step are one list (`step_eq_guarded`), which ends at the first rejected one
(`guarded_rejected`) or is accepted whole; an undefined opcode has no call after its own fetch. -/
theorem stepReportsTheFirstRejectedAccess : Obligations.StepReportsTheFirstRejectedAccess := by
  refine ⟨fun s i rest before after e hr hd hcalls ha he => ?_, fun s => step_of_rejected_opcode,
    fun s op hr hd ha => ?_, fun s i rest hr hd ha => ?_⟩
  · have hstep : step s = .fault (.busFault e.access.2 e.access.1 s.pc (s.bus.afterCalls before)) := by
      rw [step_eq_guarded hr hd, hcalls]
      exact guarded_rejected _ _ _ ha he
    exact ⟨hstep, transact_step_of_busFault hstep⟩
  · rw [step_of_undefined hr hd, ha]
    rfl
  · rw [step_eq_guarded hr hd]
    exact ⟨_, guarded_accepted _ _ _ ha⟩

/-- Settles O13: an instruction is a list of bus calls (`exec_eq_guarded`), which can only complete or raise the
BusFault of a rejected call, and that needs `BUS_FAULT_ENABLED`. -/
theorem noInstructionFailsOnTheDefaultBus : Obligations.NoInstructionFailsOnTheDefaultBus := by
  refine ⟨fun i s => exec_completes i, fun i s r h => ?_, exec_not_refused, step_not_refused⟩
  obtain ⟨before, e, after, hcalls, he, hfault⟩ := exec_fault_inversion h
  exact ⟨faultEnabled_of_rejectsCall he, before, e, after, hcalls, hfault⟩

end

section
/-! PROOFS. The frame of the general registers: what each named update writes, and from it what each form's result
leaves as it is (R32, R34). -/

namespace Sys2Proof.Machine

variable {r : Reg} (s : State)

/-! ## The registers under the named updates -/

theorem setReg_reg_of_ne {r' : Reg} (h : r ≠ r') (v : Byte) : (s.setReg r' v).reg r = s.reg r := by
  rw [setReg_reg, if_neg h]

/-- A pair write is a write of its two halves. -/
theorem setPair_reg_of_notMem {p : Pair} (h : r ∉ p.regs) (v : Word) : (s.setPair p v).reg r = s.reg r := by
  cases p with
  | sp => rfl
  | bc | de | hl =>
    obtain ⟨hhi, hlo⟩ := List.ne_and_not_mem_of_not_mem_cons h
    exact (setReg_reg_of_ne (s.setReg _ (hiByte v)) (List.ne_of_not_mem_cons hlo) (loByte v)).trans
      (setReg_reg_of_ne s hhi _)

/-- A popped word goes to the two halves of its pair, but for AF to A alone: F is no general register. -/
theorem setStackPair_reg_of_notMem {q : StackPair} (h : r ∉ (Form.pop q).regsWritten) (v : Word) :
    (s.setStackPair q v).reg r = s.reg r := by
  cases q with
  | bc => exact setPair_reg_of_notMem s (p := .bc) h v
  | de => exact setPair_reg_of_notMem s (p := .de) h v
  | hl => exact setPair_reg_of_notMem s (p := .hl) h v
  | af => exact setReg_reg_of_ne s (List.ne_of_not_mem_cons h) (hiByte v)

theorem update_reg_of_notMem {x : R8} (h : r ∉ x.regs) (v : Byte) : (x.update v s).reg r = s.reg r := by
  cases x with
  | reg r' => exact setReg_reg_of_ne s (List.ne_of_not_mem_cons h) v
  | atHL => rfl

/-- An ALU operation writes A, and CP writes it back as it was (R248). -/
theorem applyAlu_reg_of_notMem {op : AluOp} (h : r ∉ if op = .cp then [] else [Reg.a]) (v : Byte) :
    (s.applyAlu op v).reg r = s.reg r := by
  by_cases hop : op = .cp
  · subst hop
    rfl
  · rw [if_neg hop] at h
    exact setReg_reg_of_ne s (List.ne_of_not_mem_cons h) _

/-! ## The registers at the end of an instruction -/

/-- Every form leaves the registers that it does not write. -/
theorem result_reg_of_notMem (o : Form) (h : r ∉ o.regsWritten) : (o.result s).reg r = s.reg r := by
  cases o with
  | ldRegReg | ldRegMem | ldRegImm => exact setReg_reg_of_ne _ (List.ne_of_not_mem_cons h) _
  | ldAPtr | ldAAbs | ldhAImm | ldhAC | daa | cpl | rlca | rrca | rla | rra =>
    exact setReg_reg_of_ne s (r' := .a) (List.ne_of_not_mem_cons h) _
  | ldAHli | ldAHld =>
    obtain ⟨ha, hhl⟩ := List.ne_and_not_mem_of_not_mem_cons h
    rw [Form.result, retire_reg, setPair_reg_of_notMem _ (p := .hl) hhl]
    exact setReg_reg_of_ne s ha _
  | ldHliA | ldHldA =>
    rw [Form.result, retire_reg]
    exact setPair_reg_of_notMem _ (p := .hl) h _
  | ldHlSp | addHl =>
    rw [Form.result, retire_reg, setFlags_reg]
    exact setPair_reg_of_notMem _ (p := .hl) h _
  | ldPairImm | incPair | decPair => exact setPair_reg_of_notMem s h _
  | pop => exact setStackPair_reg_of_notMem _ h _
  | alu op | aluImm op => exact applyAlu_reg_of_notMem (op := op) s h _
  | incR8 | decR8 | rot | res | set => exact update_reg_of_notMem s h _
  | jpCc | jrCc | callCc | retCc => simp only [Form.result]; split <;> rfl
  | _ => rfl

end Sys2Proof.Machine

open Sys2Proof Sys2Proof.Machine

/-- Settles O16, from the frame of the registers of each form's result. -/
theorem otherRegistersAreUnchanged : Obligations.OtherRegistersAreUnchanged := by
  intro i s t r h hr
  obtain ⟨rfl, -⟩ := exec_inversion h
  exact result_reg_of_notMem s _ hr

end

section
/-! PROOFS. Interrupt entry (R413, R415, R416): an accepted `interrupt(v)` is the two stack writes of its entry
(`interrupt_of_accepted`). -/

namespace Sys2Proof.Machine

variable {v : Word} {s : State}

theorem interruptAccepted_iff : interruptAccepted v s = true ↔ v ∈ interruptVectors ∧ s.ime = true := by
  rw [interruptAccepted, Bool.and_eq_true, List.contains_iff_mem]

/-- A refused interrupt changes nothing (R416). -/
theorem interrupt_of_not_accepted (h : interruptAccepted v s = false) : interrupt v s = .next (.turnedAway, s) := by
  rw [interrupt, h]
  rfl

/-- An accepted interrupt pushes PC, with no other bus call, and goes to the vector (R415). -/
theorem interrupt_of_accepted (h : interruptAccepted v s = true) : interrupt v s =
    guarded s.pc s.bus (wordWrites (s.sp - 2) s.pc) (.accepted,
      { s with
        ime := false, imePending := false, run := .running, sp := s.sp - 2, pc := v, cycles := s.cycles + 20,
        bus := s.bus.afterWriteWord (s.sp - 2) s.pc }) := by
  rw [interrupt, if_pos h, enterInterrupt_eq]
  exact andThen_guarded_next _ _ _ rfl

/-- The bus accepts a word write where it accepts both of its bytes. -/
theorem wordWrites_accepted {b : Bus} {a : Word} (hlo : b.rejects .write a = false)
    (hhi : b.rejects .write (a + 1) = false) (w : Word) :
    ((wordWrites a w).all fun e => !b.rejectsCall e) = true := by
  rw [wordWrites, List.all_cons, List.all_cons, rejectsCall_write, rejectsCall_write, hlo, hhi]
  rfl

end Sys2Proof.Machine

open Sys2Proof Sys2Proof.Machine

/-- Settles O57: an accepted interrupt is its two stack writes, which the bus accepts, or one of which it rejects. -/
theorem interruptEntry : Obligations.InterruptEntry := by
  refine ⟨fun v s hv hime hlo hhi => ?_, fun v s h => ?_, fun v s hv hime => ⟨fun hlo => ?_, fun hlo hhi => ?_⟩⟩
  · rw [transact, interrupt_of_accepted (interruptAccepted_iff.2 ⟨hv, hime⟩)]
    exact guarded_accepted _ _ _ (wordWrites_accepted hlo hhi _)
  · refine interrupt_of_not_accepted (Bool.eq_false_of_not_eq_true fun ha => ?_)
    obtain ⟨hv, hime⟩ := interruptAccepted_iff.1 ha
    rcases h with h | h
    · exact h hv
    · rw [hime] at h
      cases h
  · refine ⟨s.pc, ?_⟩
    rw [transact, interrupt_of_accepted (interruptAccepted_iff.2 ⟨hv, hime⟩)]
    exact guarded_rejected (before := []) _ _ _ rfl hlo
  · refine ⟨s.pc, ?_⟩
    rw [transact, interrupt_of_accepted (interruptAccepted_iff.2 ⟨hv, hime⟩)]
    refine guarded_rejected (before := [.write (s.sp - 2) (loByte s.pc)]) _ _ _ ?_ hhi
    rw [List.all_cons, rejectsCall_write, hlo]
    rfl

end

section
/-! PROOFS. The events of the control state (R410, R412, R420): a step ends in its form's result with the pending bit
promoted, and only DI, EI and RETI write IME or its pending bit there, only HALT and STOP the run state. -/

namespace Sys2Proof.Machine

variable {s t : State} {i : Instr} {rest : List Byte} {o : Form}

/-! ## The forms that write the control state -/

theorem writesRun_eq_false (hhalt : o ≠ .halt) (hstop : ∀ n, o ≠ .stop n) : o.writesRun = false := by
  cases o with
  | halt => exact absurd rfl hhalt
  | stop n => exact absurd rfl (hstop n)
  | _ => rfl

theorem writesIme_eq_false (hdi : o ≠ .di) (hreti : o ≠ .reti) : o.writesIme = false := by
  cases o with
  | di => exact absurd rfl hdi
  | reti => exact absurd rfl hreti
  | _ => rfl

theorem writesPending_eq_false (hdi : o ≠ .di) (hreti : o ≠ .reti) (hei : o ≠ .ei) : o.writesPending = false := by
  cases o with
  | di => exact absurd rfl hdi
  | reti => exact absurd rfl hreti
  | ei => exact absurd rfl hei
  | _ => rfl

/-- An instruction is the row of the opcode table that its form stands for. -/
theorem eq_instr_of_form_eq (h : i.form = o) : i = o.instr := by
  rw [← h, form_instr]

/-- EI is the only instruction whose form is EI. -/
theorem form_eq_ei_iff : i.form = .ei ↔ i = .ei := by
  refine ⟨eq_instr_of_form_eq, ?_⟩
  rintro rfl
  rfl

/-! ## The control state at the end of a step -/

/-- A step of a running core ends in the result of the instruction at PC, with the pending bit promoted. -/
theorem step_eq_promote_result (hr : s.run = .running) (hd : decode (s.bytesAtPc 3) = .instr i rest)
    (h : step s = .next t) : t = promote s.imePending (i.form.result (s.afterFetch (3 - rest.length))) := by
  rcases step_inversion h with ⟨hidle, -⟩ | ⟨-, j, rest', hd', rfl, -⟩
  · exact absurd hr hidle
  · cases hd.symm.trans hd'
    rfl

/-- Every form but DI and RETI leaves IME, and all but EI leave the pending bit, so a bit that the step began with is
promoted (R412). -/
theorem promote_result_ime (hdi : o ≠ .di) (hreti : o ≠ .reti) (s : State) :
    ((promote s.imePending (o.result s)).ime, (promote s.imePending (o.result s)).imePending) =
      if s.imePending then (true, false) else (s.ime, decide (o = .ei)) := by
  have hime := result_ime_of_not_writesIme s o (writesIme_eq_false hdi hreti)
  have hpending : (o.result s).imePending = (s.imePending || decide (o = .ei)) := by
    by_cases hei : o = .ei
    · subst hei
      exact (Bool.or_true _).symm
    · rw [result_imePending_of_not_writesPending s o (writesPending_eq_false hdi hreti hei), decide_eq_false hei,
        Bool.or_false]
  rw [promote_ime, promote_imePending, hime, hpending]
  cases s.imePending <;> simp

/-- R410, R412: the pair at the end of a step of any instruction but DI and RETI. -/
theorem step_ime (hr : s.run = .running) (hd : decode (s.bytesAtPc 3) = .instr i rest) (h : step s = .next t)
    (hdi : i ≠ .di) (hreti : i ≠ .reti) : (t.ime, t.imePending) =
      if s.imePending then (true, false) else (s.ime, decide (i = .ei)) := by
  rw [step_eq_promote_result hr hd h]
  refine (promote_result_ime (mt eq_instr_of_form_eq hdi) (mt eq_instr_of_form_eq hreti) (s.afterFetch _)).trans ?_
  simp only [form_eq_ei_iff, afterFetch_imePending, afterFetch_ime]

theorem step_di_ime (hr : s.run = .running) (hd : decode (s.bytesAtPc 3) = .instr .di rest)
    (h : step s = .next t) : (t.ime, t.imePending) = (false, false) := by
  rw [step_eq_promote_result hr hd h, promote_ime, promote_imePending]
  exact congrArg (·, false) (Bool.and_false _)

theorem step_reti_ime (hr : s.run = .running) (hd : decode (s.bytesAtPc 3) = .instr .reti rest)
    (h : step s = .next t) : (t.ime, t.imePending) = (true, false) := by
  rw [step_eq_promote_result hr hd h, promote_ime, promote_imePending]
  rfl

/-- R420: a step of any instruction but HALT and STOP leaves the core running. -/
theorem step_run (hr : s.run = .running) (hd : decode (s.bytesAtPc 3) = .instr i rest) (h : step s = .next t)
    (hhalt : i ≠ .halt) (hstop : ∀ n, i ≠ .stop n) : t.run = s.run := by
  have hw : i.form.writesRun = false :=
    writesRun_eq_false (mt eq_instr_of_form_eq hhalt) fun n => mt eq_instr_of_form_eq (hstop n)
  rw [step_eq_promote_result hr hd h, promote_run, result_run_of_not_writesRun _ _ hw, afterFetch_run]

theorem step_halt_run (hr : s.run = .running) (hd : decode (s.bytesAtPc 3) = .instr .halt rest)
    (h : step s = .next t) : t.run = .halted := by
  rw [step_eq_promote_result hr hd h, promote_run]
  rfl

theorem step_stop_run {n : Byte} (hr : s.run = .running) (hd : decode (s.bytesAtPc 3) = .instr (.stop n) rest)
    (h : step s = .next t) : t.run = .stopped := by
  rw [step_eq_promote_result hr hd h, promote_run]
  rfl

/-! ## The control state after an interrupt -/

theorem enterInterrupt_control {v : Word} (h : enterInterrupt v s = .next t) :
    t.run = .running ∧ t.ime = false ∧ t.imePending = false := by
  rw [enterInterrupt_eq] at h
  obtain ⟨rfl, -⟩ := guarded_eq_next _ _ _ h
  exact ⟨rfl, rfl, rfl⟩

end Sys2Proof.Machine

open Sys2Proof Sys2Proof.Machine

/-- Settles O58: the table of R410, transaction by transaction; a step is an idle tick, an instruction by its row, or
an undefined opcode. -/
theorem imeChangesOnlyAtItsEvents : Obligations.ImeChangesOnlyAtItsEvents := by
  intro x s t r h
  cases x with
  | step =>
    rcases transact_step_inversion h with ⟨hs, rfl⟩ | ⟨op, pc, -, rfl, rfl⟩
    · dsimp only
      split
      next hr hd => exact step_di_ime hr hd hs
      next hr hd => exact step_reti_ime hr hd hs
      next hdi hreti _ hr hd => exact step_ime hr hd hs hdi hreti
      next hnone =>
        rcases step_inversion hs with ⟨-, rfl⟩ | ⟨hr, i, rest, hd, -⟩
        · rfl
        · exact absurd hd (hnone _ i rest rfl hr)
    · rfl
  | getState =>
    cases h
    rfl
  | reset p v =>
    cases h
    cases p <;> rfl
  | resume =>
    cases h
    rw [resume_eq]
  | interrupt v =>
    rcases interrupt_inversion h with ⟨-, rfl, rfl⟩ | ⟨-, rfl, he⟩
    · rfl
    · obtain ⟨-, hime, hpending⟩ := enterInterrupt_control he
      rw [hime, hpending]
      rfl

/-- Settles O59: the table of R420, transaction by transaction; a step is an idle tick, an instruction by its row, or
an undefined opcode. -/
theorem runStateChangesOnlyAtItsEvents : Obligations.RunStateChangesOnlyAtItsEvents := by
  intro x s t r h
  cases x with
  | step =>
    rcases transact_step_inversion h with ⟨hs, rfl⟩ | ⟨op, pc, -, rfl, rfl⟩
    · dsimp only
      split
      next hr hd => exact step_halt_run hr hd hs
      next hr hd => exact step_stop_run hr hd hs
      next hhalt hstop =>
        rcases step_inversion hs with ⟨-, rfl⟩ | ⟨hr, i, rest, hd, -⟩
        · rfl
        · exact step_run hr hd hs (fun hi => hhalt _ rest rfl hr (hi ▸ hd))
            fun n hi => hstop _ n rest rfl hr (hi ▸ hd)
    · rfl
  | getState =>
    cases h
    rfl
  | reset p v =>
    cases h
    cases p <;> rfl
  | resume =>
    cases h
    rw [resume_eq]
  | interrupt v =>
    rcases interrupt_inversion h with ⟨-, rfl, rfl⟩ | ⟨-, rfl, he⟩
    · rfl
    · exact (enterInterrupt_control he).1

end
